-- ==== Sys2Proof/Word.lean ====
section
/-! DEFINITION. The two widths of the machine: bytes (8-bit data bus, R7) and addresses (16-bit address bus, R7). -/

namespace Sys2Proof

/-- A byte: the width of A, X, Y, S, P and of every memory location (R7, R61). -/
abbrev Byte := BitVec 8

/-- An address: the width of `pc` and of every effective address (R7, R24). -/
abbrev Addr := BitVec 16

end Sys2Proof
end

