-- ==== Sys2Proof/Machine/Bytes.lean ====
section
/-! DEFINITION. Byte order, extension of bytes to addresses, and the length of an instruction. -/

namespace Sys2Proof

/-- The low byte of a 16-bit quantity, `v[7:0]` (R9). -/
def lowByte (w : Addr) : Byte := w.extractLsb' 0 8

/-- The high byte of a 16-bit quantity, `v[15:8]` (R9). -/
def highByte (w : Addr) : Byte := w.extractLsb' 8 8

/-- `hi : lo`, the 16-bit quantity `256 * hi + lo` (R9, R103). -/
def joinBytes (hi lo : Byte) : Addr := hi ++ lo

/-- `zext_16` (R9): a zero-page address (R103). -/
def zext16 (b : Byte) : Addr := b.setWidth 16

/-- `sext_16` (R9): the offset of a relative operand (R103). -/
def sext16 (b : Byte) : Addr := b.signExtend 16

/-- The length in bytes of an instruction by its op code, for each row of sixteen op codes of the map
(R101 with the formats of R102, R105 and R112). -/
def lengthRows : List (List Nat) := [
  [1, 2, 2, 1, 2, 2, 2, 1, 1, 2, 1, 1, 3, 3, 3, 1],
  [2, 2, 2, 1, 2, 2, 2, 1, 1, 3, 1, 1, 3, 3, 3, 1],
  [3, 2, 2, 1, 2, 2, 2, 1, 1, 2, 1, 1, 3, 3, 3, 1],
  [2, 2, 2, 1, 2, 2, 2, 1, 1, 3, 1, 1, 3, 3, 3, 1],
  [1, 2, 2, 1, 2, 2, 2, 1, 1, 2, 1, 1, 3, 3, 3, 1],
  [2, 2, 2, 1, 2, 2, 2, 1, 1, 3, 1, 1, 3, 3, 3, 1],
  [1, 2, 2, 1, 2, 2, 2, 1, 1, 2, 1, 1, 3, 3, 3, 1],
  [2, 2, 2, 1, 2, 2, 2, 1, 1, 3, 1, 1, 3, 3, 3, 1],
  [2, 2, 2, 1, 2, 2, 2, 1, 1, 2, 1, 1, 3, 3, 3, 1],
  [2, 2, 2, 1, 2, 2, 2, 1, 1, 3, 1, 1, 3, 3, 3, 1],
  [2, 2, 2, 1, 2, 2, 2, 1, 1, 2, 1, 1, 3, 3, 3, 1],
  [2, 2, 2, 1, 2, 2, 2, 1, 1, 3, 1, 1, 3, 3, 3, 1],
  [2, 2, 2, 1, 2, 2, 2, 1, 1, 2, 1, 1, 3, 3, 3, 1],
  [2, 2, 2, 1, 2, 2, 2, 1, 1, 3, 1, 1, 3, 3, 3, 1],
  [2, 2, 2, 1, 2, 2, 2, 1, 1, 2, 1, 1, 3, 3, 3, 1],
  [2, 2, 2, 1, 2, 2, 2, 1, 1, 3, 1, 1, 3, 3, 3, 1]]

/-- `length(op)` (R101): 1, 2 or 3. -/
def instrLength (op : Byte) : Nat :=
  (lengthRows.getD (op.toNat / 16) []).getD (op.toNat % 16) 1

end Sys2Proof
end

