-- ==== Sys2Proof/Syntax.lean ====
section
/-! DEFINITION. The instructions: one constructor for each of the 256 rows of the op code map (R105, R112),
first the 157 that have an operand field, then the 99 of one byte, each group in op code order. Operands are
the operand fields of R102 and R103: a byte, or a 16-bit value assembled low byte first. `rsv..` are the 78
reserved op codes, which are NOPs (R112, R258 to R260); the bytes they skip are kept, so that encoding loses
nothing. -/

namespace Sys2Proof

/-- An instruction of the NCR 65C02 (R100 to R114). -/
inductive Instr where
  /-- 01: ORA, (zero page,X) (R201). -/
  | oraIzx (zp : Byte)
  /-- 02: NOP, reserved, two bytes (R259). -/
  | rsv02 (ignored : Byte)
  /-- 04: TSB, zero page (R204). -/
  | tsbZpg (zp : Byte)
  /-- 05: ORA, zero page (R201). -/
  | oraZpg (zp : Byte)
  /-- 06: ASL, zero page (R207). -/
  | aslZpg (zp : Byte)
  /-- 09: ORA, immediate (R201). -/
  | oraImm (imm : Byte)
  /-- 0C: TSB, absolute (R204). -/
  | tsbAbs (addr : Addr)
  /-- 0D: ORA, absolute (R201). -/
  | oraAbs (addr : Addr)
  /-- 0E: ASL, absolute (R207). -/
  | aslAbs (addr : Addr)
  /-- 10: BPL, relative (R226). -/
  | bpl (off : Byte)
  /-- 11: ORA, (zero page),Y (R201). -/
  | oraIzy (zp : Byte)
  /-- 12: ORA, (zero page) (R201). -/
  | oraIzp (zp : Byte)
  /-- 14: TRB, zero page (R205). -/
  | trbZpg (zp : Byte)
  /-- 15: ORA, zero page,X (R201). -/
  | oraZpx (zp : Byte)
  /-- 16: ASL, zero page,X (R207). -/
  | aslZpx (zp : Byte)
  /-- 19: ORA, absolute,Y (R201). -/
  | oraAby (addr : Addr)
  /-- 1C: TRB, absolute (R205). -/
  | trbAbs (addr : Addr)
  /-- 1D: ORA, absolute,X (R201). -/
  | oraAbx (addr : Addr)
  /-- 1E: ASL, absolute,X (R207). -/
  | aslAbx (addr : Addr)
  /-- 20: JSR, absolute (R231). -/
  | jsr (addr : Addr)
  /-- 21: AND, (zero page,X) (R200). -/
  | andIzx (zp : Byte)
  /-- 22: NOP, reserved, two bytes (R259). -/
  | rsv22 (ignored : Byte)
  /-- 24: BIT, zero page (R203). -/
  | bitZpg (zp : Byte)
  /-- 25: AND, zero page (R200). -/
  | andZpg (zp : Byte)
  /-- 26: ROL, zero page (R209). -/
  | rolZpg (zp : Byte)
  /-- 29: AND, immediate (R200). -/
  | andImm (imm : Byte)
  /-- 2C: BIT, absolute (R203). -/
  | bitAbs (addr : Addr)
  /-- 2D: AND, absolute (R200). -/
  | andAbs (addr : Addr)
  /-- 2E: ROL, absolute (R209). -/
  | rolAbs (addr : Addr)
  /-- 30: BMI, relative (R225). -/
  | bmi (off : Byte)
  /-- 31: AND, (zero page),Y (R200). -/
  | andIzy (zp : Byte)
  /-- 32: AND, (zero page) (R200). -/
  | andIzp (zp : Byte)
  /-- 34: BIT, zero page,X (R203). -/
  | bitZpx (zp : Byte)
  /-- 35: AND, zero page,X (R200). -/
  | andZpx (zp : Byte)
  /-- 36: ROL, zero page,X (R209). -/
  | rolZpx (zp : Byte)
  /-- 39: AND, absolute,Y (R200). -/
  | andAby (addr : Addr)
  /-- 3C: BIT, absolute,X (R203). -/
  | bitAbx (addr : Addr)
  /-- 3D: AND, absolute,X (R200). -/
  | andAbx (addr : Addr)
  /-- 3E: ROL, absolute,X (R209). -/
  | rolAbx (addr : Addr)
  /-- 41: EOR, (zero page,X) (R202). -/
  | eorIzx (zp : Byte)
  /-- 42: NOP, reserved, two bytes (R259). -/
  | rsv42 (ignored : Byte)
  /-- 44: NOP, reserved, two bytes (R259). -/
  | rsv44 (ignored : Byte)
  /-- 45: EOR, zero page (R202). -/
  | eorZpg (zp : Byte)
  /-- 46: LSR, zero page (R208). -/
  | lsrZpg (zp : Byte)
  /-- 49: EOR, immediate (R202). -/
  | eorImm (imm : Byte)
  /-- 4C: JMP, absolute (R230). -/
  | jmpAbs (addr : Addr)
  /-- 4D: EOR, absolute (R202). -/
  | eorAbs (addr : Addr)
  /-- 4E: LSR, absolute (R208). -/
  | lsrAbs (addr : Addr)
  /-- 50: BVC, relative (R227). -/
  | bvc (off : Byte)
  /-- 51: EOR, (zero page),Y (R202). -/
  | eorIzy (zp : Byte)
  /-- 52: EOR, (zero page) (R202). -/
  | eorIzp (zp : Byte)
  /-- 54: NOP, reserved, two bytes (R259). -/
  | rsv54 (ignored : Byte)
  /-- 55: EOR, zero page,X (R202). -/
  | eorZpx (zp : Byte)
  /-- 56: LSR, zero page,X (R208). -/
  | lsrZpx (zp : Byte)
  /-- 59: EOR, absolute,Y (R202). -/
  | eorAby (addr : Addr)
  /-- 5C: NOP, reserved, three bytes (R260). -/
  | rsv5c (ignored : Addr)
  /-- 5D: EOR, absolute,X (R202). -/
  | eorAbx (addr : Addr)
  /-- 5E: LSR, absolute,X (R208). -/
  | lsrAbx (addr : Addr)
  /-- 61: ADC, (zero page,X) (R180). -/
  | adcIzx (zp : Byte)
  /-- 62: NOP, reserved, two bytes (R259). -/
  | rsv62 (ignored : Byte)
  /-- 64: STZ, zero page (R167). -/
  | stzZpg (zp : Byte)
  /-- 65: ADC, zero page (R180). -/
  | adcZpg (zp : Byte)
  /-- 66: ROR, zero page (R210). -/
  | rorZpg (zp : Byte)
  /-- 69: ADC, immediate (R180). -/
  | adcImm (imm : Byte)
  /-- 6C: JMP, (absolute) (R230). -/
  | jmpInd (addr : Addr)
  /-- 6D: ADC, absolute (R180). -/
  | adcAbs (addr : Addr)
  /-- 6E: ROR, absolute (R210). -/
  | rorAbs (addr : Addr)
  /-- 70: BVS, relative (R228). -/
  | bvs (off : Byte)
  /-- 71: ADC, (zero page),Y (R180). -/
  | adcIzy (zp : Byte)
  /-- 72: ADC, (zero page) (R180). -/
  | adcIzp (zp : Byte)
  /-- 74: STZ, zero page,X (R167). -/
  | stzZpx (zp : Byte)
  /-- 75: ADC, zero page,X (R180). -/
  | adcZpx (zp : Byte)
  /-- 76: ROR, zero page,X (R210). -/
  | rorZpx (zp : Byte)
  /-- 79: ADC, absolute,Y (R180). -/
  | adcAby (addr : Addr)
  /-- 7C: JMP, (absolute,X) (R230). -/
  | jmpIax (addr : Addr)
  /-- 7D: ADC, absolute,X (R180). -/
  | adcAbx (addr : Addr)
  /-- 7E: ROR, absolute,X (R210). -/
  | rorAbx (addr : Addr)
  /-- 80: BRA, relative (R229). -/
  | bra (off : Byte)
  /-- 81: STA, (zero page,X) (R164). -/
  | staIzx (zp : Byte)
  /-- 82: NOP, reserved, two bytes (R259). -/
  | rsv82 (ignored : Byte)
  /-- 84: STY, zero page (R166). -/
  | styZpg (zp : Byte)
  /-- 85: STA, zero page (R164). -/
  | staZpg (zp : Byte)
  /-- 86: STX, zero page (R165). -/
  | stxZpg (zp : Byte)
  /-- 89: BIT, immediate (R203). -/
  | bitImm (imm : Byte)
  /-- 8C: STY, absolute (R166). -/
  | styAbs (addr : Addr)
  /-- 8D: STA, absolute (R164). -/
  | staAbs (addr : Addr)
  /-- 8E: STX, absolute (R165). -/
  | stxAbs (addr : Addr)
  /-- 90: BCC, relative (R221). -/
  | bcc (off : Byte)
  /-- 91: STA, (zero page),Y (R164). -/
  | staIzy (zp : Byte)
  /-- 92: STA, (zero page) (R164). -/
  | staIzp (zp : Byte)
  /-- 94: STY, zero page,X (R166). -/
  | styZpx (zp : Byte)
  /-- 95: STA, zero page,X (R164). -/
  | staZpx (zp : Byte)
  /-- 96: STX, zero page,Y (R165). -/
  | stxZpy (zp : Byte)
  /-- 99: STA, absolute,Y (R164). -/
  | staAby (addr : Addr)
  /-- 9C: STZ, absolute (R167). -/
  | stzAbs (addr : Addr)
  /-- 9D: STA, absolute,X (R164). -/
  | staAbx (addr : Addr)
  /-- 9E: STZ, absolute,X (R167). -/
  | stzAbx (addr : Addr)
  /-- A0: LDY, immediate (R163). -/
  | ldyImm (imm : Byte)
  /-- A1: LDA, (zero page,X) (R161). -/
  | ldaIzx (zp : Byte)
  /-- A2: LDX, immediate (R162). -/
  | ldxImm (imm : Byte)
  /-- A4: LDY, zero page (R163). -/
  | ldyZpg (zp : Byte)
  /-- A5: LDA, zero page (R161). -/
  | ldaZpg (zp : Byte)
  /-- A6: LDX, zero page (R162). -/
  | ldxZpg (zp : Byte)
  /-- A9: LDA, immediate (R161). -/
  | ldaImm (imm : Byte)
  /-- AC: LDY, absolute (R163). -/
  | ldyAbs (addr : Addr)
  /-- AD: LDA, absolute (R161). -/
  | ldaAbs (addr : Addr)
  /-- AE: LDX, absolute (R162). -/
  | ldxAbs (addr : Addr)
  /-- B0: BCS, relative (R222). -/
  | bcs (off : Byte)
  /-- B1: LDA, (zero page),Y (R161). -/
  | ldaIzy (zp : Byte)
  /-- B2: LDA, (zero page) (R161). -/
  | ldaIzp (zp : Byte)
  /-- B4: LDY, zero page,X (R163). -/
  | ldyZpx (zp : Byte)
  /-- B5: LDA, zero page,X (R161). -/
  | ldaZpx (zp : Byte)
  /-- B6: LDX, zero page,Y (R162). -/
  | ldxZpy (zp : Byte)
  /-- B9: LDA, absolute,Y (R161). -/
  | ldaAby (addr : Addr)
  /-- BC: LDY, absolute,X (R163). -/
  | ldyAbx (addr : Addr)
  /-- BD: LDA, absolute,X (R161). -/
  | ldaAbx (addr : Addr)
  /-- BE: LDX, absolute,Y (R162). -/
  | ldxAby (addr : Addr)
  /-- C0: CPY, immediate (R186). -/
  | cpyImm (imm : Byte)
  /-- C1: CMP, (zero page,X) (R184). -/
  | cmpIzx (zp : Byte)
  /-- C2: NOP, reserved, two bytes (R259). -/
  | rsvc2 (ignored : Byte)
  /-- C4: CPY, zero page (R186). -/
  | cpyZpg (zp : Byte)
  /-- C5: CMP, zero page (R184). -/
  | cmpZpg (zp : Byte)
  /-- C6: DEC, zero page (R188). -/
  | decZpg (zp : Byte)
  /-- C9: CMP, immediate (R184). -/
  | cmpImm (imm : Byte)
  /-- CC: CPY, absolute (R186). -/
  | cpyAbs (addr : Addr)
  /-- CD: CMP, absolute (R184). -/
  | cmpAbs (addr : Addr)
  /-- CE: DEC, absolute (R188). -/
  | decAbs (addr : Addr)
  /-- D0: BNE, relative (R224). -/
  | bne (off : Byte)
  /-- D1: CMP, (zero page),Y (R184). -/
  | cmpIzy (zp : Byte)
  /-- D2: CMP, (zero page) (R184). -/
  | cmpIzp (zp : Byte)
  /-- D4: NOP, reserved, two bytes (R259). -/
  | rsvd4 (ignored : Byte)
  /-- D5: CMP, zero page,X (R184). -/
  | cmpZpx (zp : Byte)
  /-- D6: DEC, zero page,X (R188). -/
  | decZpx (zp : Byte)
  /-- D9: CMP, absolute,Y (R184). -/
  | cmpAby (addr : Addr)
  /-- DC: NOP, reserved, three bytes (R260). -/
  | rsvdc (ignored : Addr)
  /-- DD: CMP, absolute,X (R184). -/
  | cmpAbx (addr : Addr)
  /-- DE: DEC, absolute,X (R188). -/
  | decAbx (addr : Addr)
  /-- E0: CPX, immediate (R185). -/
  | cpxImm (imm : Byte)
  /-- E1: SBC, (zero page,X) (R181). -/
  | sbcIzx (zp : Byte)
  /-- E2: NOP, reserved, two bytes (R259). -/
  | rsve2 (ignored : Byte)
  /-- E4: CPX, zero page (R185). -/
  | cpxZpg (zp : Byte)
  /-- E5: SBC, zero page (R181). -/
  | sbcZpg (zp : Byte)
  /-- E6: INC, zero page (R187). -/
  | incZpg (zp : Byte)
  /-- E9: SBC, immediate (R181). -/
  | sbcImm (imm : Byte)
  /-- EC: CPX, absolute (R185). -/
  | cpxAbs (addr : Addr)
  /-- ED: SBC, absolute (R181). -/
  | sbcAbs (addr : Addr)
  /-- EE: INC, absolute (R187). -/
  | incAbs (addr : Addr)
  /-- F0: BEQ, relative (R223). -/
  | beq (off : Byte)
  /-- F1: SBC, (zero page),Y (R181). -/
  | sbcIzy (zp : Byte)
  /-- F2: SBC, (zero page) (R181). -/
  | sbcIzp (zp : Byte)
  /-- F4: NOP, reserved, two bytes (R259). -/
  | rsvf4 (ignored : Byte)
  /-- F5: SBC, zero page,X (R181). -/
  | sbcZpx (zp : Byte)
  /-- F6: INC, zero page,X (R187). -/
  | incZpx (zp : Byte)
  /-- F9: SBC, absolute,Y (R181). -/
  | sbcAby (addr : Addr)
  /-- FC: NOP, reserved, three bytes (R260). -/
  | rsvfc (ignored : Addr)
  /-- FD: SBC, absolute,X (R181). -/
  | sbcAbx (addr : Addr)
  /-- FE: INC, absolute,X (R187). -/
  | incAbx (addr : Addr)
  /-- 00: BRK, implied (R256). -/
  | brk
  /-- 03: NOP, reserved, one byte (R258). -/
  | rsv03
  /-- 07: NOP, reserved, one byte (R258). -/
  | rsv07
  /-- 08: PHP, implied (R241). -/
  | php
  /-- 0A: ASL, accumulator (R207). -/
  | aslAcc
  /-- 0B: NOP, reserved, one byte (R258). -/
  | rsv0b
  /-- 0F: NOP, reserved, one byte (R258). -/
  | rsv0f
  /-- 13: NOP, reserved, one byte (R258). -/
  | rsv13
  /-- 17: NOP, reserved, one byte (R258). -/
  | rsv17
  /-- 18: CLC, implied (R248). -/
  | clc
  /-- 1A: INA, accumulator (R189). -/
  | ina
  /-- 1B: NOP, reserved, one byte (R258). -/
  | rsv1b
  /-- 1F: NOP, reserved, one byte (R258). -/
  | rsv1f
  /-- 23: NOP, reserved, one byte (R258). -/
  | rsv23
  /-- 27: NOP, reserved, one byte (R258). -/
  | rsv27
  /-- 28: PLP, implied (R245). -/
  | plp
  /-- 2A: ROL, accumulator (R209). -/
  | rolAcc
  /-- 2B: NOP, reserved, one byte (R258). -/
  | rsv2b
  /-- 2F: NOP, reserved, one byte (R258). -/
  | rsv2f
  /-- 33: NOP, reserved, one byte (R258). -/
  | rsv33
  /-- 37: NOP, reserved, one byte (R258). -/
  | rsv37
  /-- 38: SEC, implied (R252). -/
  | sec
  /-- 3A: DEA, accumulator (R190). -/
  | dea
  /-- 3B: NOP, reserved, one byte (R258). -/
  | rsv3b
  /-- 3F: NOP, reserved, one byte (R258). -/
  | rsv3f
  /-- 40: RTI, implied (R257). -/
  | rti
  /-- 43: NOP, reserved, one byte (R258). -/
  | rsv43
  /-- 47: NOP, reserved, one byte (R258). -/
  | rsv47
  /-- 48: PHA, implied (R240). -/
  | pha
  /-- 4A: LSR, accumulator (R208). -/
  | lsrAcc
  /-- 4B: NOP, reserved, one byte (R258). -/
  | rsv4b
  /-- 4F: NOP, reserved, one byte (R258). -/
  | rsv4f
  /-- 53: NOP, reserved, one byte (R258). -/
  | rsv53
  /-- 57: NOP, reserved, one byte (R258). -/
  | rsv57
  /-- 58: CLI, implied (R250). -/
  | cli
  /-- 5A: PHY, implied (R243). -/
  | phy
  /-- 5B: NOP, reserved, one byte (R258). -/
  | rsv5b
  /-- 5F: NOP, reserved, one byte (R258). -/
  | rsv5f
  /-- 60: RTS, implied (R232). -/
  | rts
  /-- 63: NOP, reserved, one byte (R258). -/
  | rsv63
  /-- 67: NOP, reserved, one byte (R258). -/
  | rsv67
  /-- 68: PLA, implied (R244). -/
  | pla
  /-- 6A: ROR, accumulator (R210). -/
  | rorAcc
  /-- 6B: NOP, reserved, one byte (R258). -/
  | rsv6b
  /-- 6F: NOP, reserved, one byte (R258). -/
  | rsv6f
  /-- 73: NOP, reserved, one byte (R258). -/
  | rsv73
  /-- 77: NOP, reserved, one byte (R258). -/
  | rsv77
  /-- 78: SEI, implied (R254). -/
  | sei
  /-- 7A: PLY, implied (R247). -/
  | ply
  /-- 7B: NOP, reserved, one byte (R258). -/
  | rsv7b
  /-- 7F: NOP, reserved, one byte (R258). -/
  | rsv7f
  /-- 83: NOP, reserved, one byte (R258). -/
  | rsv83
  /-- 87: NOP, reserved, one byte (R258). -/
  | rsv87
  /-- 88: DEY, implied (R194). -/
  | dey
  /-- 8A: TXA, implied (R170). -/
  | txa
  /-- 8B: NOP, reserved, one byte (R258). -/
  | rsv8b
  /-- 8F: NOP, reserved, one byte (R258). -/
  | rsv8f
  /-- 93: NOP, reserved, one byte (R258). -/
  | rsv93
  /-- 97: NOP, reserved, one byte (R258). -/
  | rsv97
  /-- 98: TYA, implied (R171). -/
  | tya
  /-- 9A: TXS, implied (R173). -/
  | txs
  /-- 9B: NOP, reserved, one byte (R258). -/
  | rsv9b
  /-- 9F: NOP, reserved, one byte (R258). -/
  | rsv9f
  /-- A3: NOP, reserved, one byte (R258). -/
  | rsva3
  /-- A7: NOP, reserved, one byte (R258). -/
  | rsva7
  /-- A8: TAY, implied (R169). -/
  | tay
  /-- AA: TAX, implied (R168). -/
  | tax
  /-- AB: NOP, reserved, one byte (R258). -/
  | rsvab
  /-- AF: NOP, reserved, one byte (R258). -/
  | rsvaf
  /-- B3: NOP, reserved, one byte (R258). -/
  | rsvb3
  /-- B7: NOP, reserved, one byte (R258). -/
  | rsvb7
  /-- B8: CLV, implied (R251). -/
  | clv
  /-- BA: TSX, implied (R172). -/
  | tsx
  /-- BB: NOP, reserved, one byte (R258). -/
  | rsvbb
  /-- BF: NOP, reserved, one byte (R258). -/
  | rsvbf
  /-- C3: NOP, reserved, one byte (R258). -/
  | rsvc3
  /-- C7: NOP, reserved, one byte (R258). -/
  | rsvc7
  /-- C8: INY, implied (R192). -/
  | iny
  /-- CA: DEX, implied (R193). -/
  | dex
  /-- CB: NOP, reserved, one byte (R258). -/
  | rsvcb
  /-- CF: NOP, reserved, one byte (R258). -/
  | rsvcf
  /-- D3: NOP, reserved, one byte (R258). -/
  | rsvd3
  /-- D7: NOP, reserved, one byte (R258). -/
  | rsvd7
  /-- D8: CLD, implied (R249). -/
  | cld
  /-- DA: PHX, implied (R242). -/
  | phx
  /-- DB: NOP, reserved, one byte (R258). -/
  | rsvdb
  /-- DF: NOP, reserved, one byte (R258). -/
  | rsvdf
  /-- E3: NOP, reserved, one byte (R258). -/
  | rsve3
  /-- E7: NOP, reserved, one byte (R258). -/
  | rsve7
  /-- E8: INX, implied (R191). -/
  | inx
  /-- EA: NOP, implied (R255). -/
  | nop
  /-- EB: NOP, reserved, one byte (R258). -/
  | rsveb
  /-- EF: NOP, reserved, one byte (R258). -/
  | rsvef
  /-- F3: NOP, reserved, one byte (R258). -/
  | rsvf3
  /-- F7: NOP, reserved, one byte (R258). -/
  | rsvf7
  /-- F8: SED, implied (R253). -/
  | sed
  /-- FA: PLX, implied (R246). -/
  | plx
  /-- FB: NOP, reserved, one byte (R258). -/
  | rsvfb
  /-- FF: NOP, reserved, one byte (R258). -/
  | rsvff
deriving DecidableEq, Repr

end Sys2Proof
end

