-- ==== Sys2Proof/WellFormed.lean ====
section
/-! DEFINITION. When a byte string is exactly one instruction. Every term of `Instr` is well formed, because
every operand value is legal (R113) and the operands' types have the field widths of R102; what can be ill
formed is a byte string, by its length (R101). -/

namespace Sys2Proof

/-- The bytes are one complete instruction: an op code and exactly the operand bytes that its length asks
for (R100, R101). -/
def wellFormedBytes : List Byte → Bool
  | [] => false
  | op :: operands => operands.length + 1 == instrLength op

end Sys2Proof
end

