-- ==== Sys2Proof/Decode.lean ====
section
/-! DEFINITION. The decoder and the encoder. The op code byte alone selects instruction, addressing mode
and length (R100, R114); the map is R105 with the reserved op codes of R112. Decoding is total on complete
instructions: no encoding is illegal (R113). The only byte strings refused, by name, are those that end too
early. -/

namespace Sys2Proof

/-- One cell of the op code map: the instruction as a function of its operand field, whose size fixes the
length (R102). -/
inductive OpCell where
  /-- One byte: no operand field. -/
  | one (i : Instr)
  /-- Two bytes: a byte of operand. -/
  | two (f : Byte → Instr)
  /-- Three bytes: a 16-bit operand, low byte first (R62). -/
  | three (f : Addr → Instr)

/-- The number of bytes of an instruction of this cell (R101). -/
def OpCell.length : OpCell → Nat
  | .one _ => 1
  | .two _ => 2
  | .three _ => 3

/-- Row 0x of the op code map (R105, R112). -/
def opRow0 : List OpCell := [
  .one .brk, .two .oraIzx, .two .rsv02, .one .rsv03,
  .two .tsbZpg, .two .oraZpg, .two .aslZpg, .one .rsv07,
  .one .php, .two .oraImm, .one .aslAcc, .one .rsv0b,
  .three .tsbAbs, .three .oraAbs, .three .aslAbs, .one .rsv0f]

/-- Row 1x of the op code map (R105, R112). -/
def opRow1 : List OpCell := [
  .two .bpl, .two .oraIzy, .two .oraIzp, .one .rsv13,
  .two .trbZpg, .two .oraZpx, .two .aslZpx, .one .rsv17,
  .one .clc, .three .oraAby, .one .ina, .one .rsv1b,
  .three .trbAbs, .three .oraAbx, .three .aslAbx, .one .rsv1f]

/-- Row 2x of the op code map (R105, R112). -/
def opRow2 : List OpCell := [
  .three .jsr, .two .andIzx, .two .rsv22, .one .rsv23,
  .two .bitZpg, .two .andZpg, .two .rolZpg, .one .rsv27,
  .one .plp, .two .andImm, .one .rolAcc, .one .rsv2b,
  .three .bitAbs, .three .andAbs, .three .rolAbs, .one .rsv2f]

/-- Row 3x of the op code map (R105, R112). -/
def opRow3 : List OpCell := [
  .two .bmi, .two .andIzy, .two .andIzp, .one .rsv33,
  .two .bitZpx, .two .andZpx, .two .rolZpx, .one .rsv37,
  .one .sec, .three .andAby, .one .dea, .one .rsv3b,
  .three .bitAbx, .three .andAbx, .three .rolAbx, .one .rsv3f]

/-- Row 4x of the op code map (R105, R112). -/
def opRow4 : List OpCell := [
  .one .rti, .two .eorIzx, .two .rsv42, .one .rsv43,
  .two .rsv44, .two .eorZpg, .two .lsrZpg, .one .rsv47,
  .one .pha, .two .eorImm, .one .lsrAcc, .one .rsv4b,
  .three .jmpAbs, .three .eorAbs, .three .lsrAbs, .one .rsv4f]

/-- Row 5x of the op code map (R105, R112). -/
def opRow5 : List OpCell := [
  .two .bvc, .two .eorIzy, .two .eorIzp, .one .rsv53,
  .two .rsv54, .two .eorZpx, .two .lsrZpx, .one .rsv57,
  .one .cli, .three .eorAby, .one .phy, .one .rsv5b,
  .three .rsv5c, .three .eorAbx, .three .lsrAbx, .one .rsv5f]

/-- Row 6x of the op code map (R105, R112). -/
def opRow6 : List OpCell := [
  .one .rts, .two .adcIzx, .two .rsv62, .one .rsv63,
  .two .stzZpg, .two .adcZpg, .two .rorZpg, .one .rsv67,
  .one .pla, .two .adcImm, .one .rorAcc, .one .rsv6b,
  .three .jmpInd, .three .adcAbs, .three .rorAbs, .one .rsv6f]

/-- Row 7x of the op code map (R105, R112). -/
def opRow7 : List OpCell := [
  .two .bvs, .two .adcIzy, .two .adcIzp, .one .rsv73,
  .two .stzZpx, .two .adcZpx, .two .rorZpx, .one .rsv77,
  .one .sei, .three .adcAby, .one .ply, .one .rsv7b,
  .three .jmpIax, .three .adcAbx, .three .rorAbx, .one .rsv7f]

/-- Row 8x of the op code map (R105, R112). -/
def opRow8 : List OpCell := [
  .two .bra, .two .staIzx, .two .rsv82, .one .rsv83,
  .two .styZpg, .two .staZpg, .two .stxZpg, .one .rsv87,
  .one .dey, .two .bitImm, .one .txa, .one .rsv8b,
  .three .styAbs, .three .staAbs, .three .stxAbs, .one .rsv8f]

/-- Row 9x of the op code map (R105, R112). -/
def opRow9 : List OpCell := [
  .two .bcc, .two .staIzy, .two .staIzp, .one .rsv93,
  .two .styZpx, .two .staZpx, .two .stxZpy, .one .rsv97,
  .one .tya, .three .staAby, .one .txs, .one .rsv9b,
  .three .stzAbs, .three .staAbx, .three .stzAbx, .one .rsv9f]

/-- Row Ax of the op code map (R105, R112). -/
def opRowA : List OpCell := [
  .two .ldyImm, .two .ldaIzx, .two .ldxImm, .one .rsva3,
  .two .ldyZpg, .two .ldaZpg, .two .ldxZpg, .one .rsva7,
  .one .tay, .two .ldaImm, .one .tax, .one .rsvab,
  .three .ldyAbs, .three .ldaAbs, .three .ldxAbs, .one .rsvaf]

/-- Row Bx of the op code map (R105, R112). -/
def opRowB : List OpCell := [
  .two .bcs, .two .ldaIzy, .two .ldaIzp, .one .rsvb3,
  .two .ldyZpx, .two .ldaZpx, .two .ldxZpy, .one .rsvb7,
  .one .clv, .three .ldaAby, .one .tsx, .one .rsvbb,
  .three .ldyAbx, .three .ldaAbx, .three .ldxAby, .one .rsvbf]

/-- Row Cx of the op code map (R105, R112). -/
def opRowC : List OpCell := [
  .two .cpyImm, .two .cmpIzx, .two .rsvc2, .one .rsvc3,
  .two .cpyZpg, .two .cmpZpg, .two .decZpg, .one .rsvc7,
  .one .iny, .two .cmpImm, .one .dex, .one .rsvcb,
  .three .cpyAbs, .three .cmpAbs, .three .decAbs, .one .rsvcf]

/-- Row Dx of the op code map (R105, R112). -/
def opRowD : List OpCell := [
  .two .bne, .two .cmpIzy, .two .cmpIzp, .one .rsvd3,
  .two .rsvd4, .two .cmpZpx, .two .decZpx, .one .rsvd7,
  .one .cld, .three .cmpAby, .one .phx, .one .rsvdb,
  .three .rsvdc, .three .cmpAbx, .three .decAbx, .one .rsvdf]

/-- Row Ex of the op code map (R105, R112). -/
def opRowE : List OpCell := [
  .two .cpxImm, .two .sbcIzx, .two .rsve2, .one .rsve3,
  .two .cpxZpg, .two .sbcZpg, .two .incZpg, .one .rsve7,
  .one .inx, .two .sbcImm, .one .nop, .one .rsveb,
  .three .cpxAbs, .three .sbcAbs, .three .incAbs, .one .rsvef]

/-- Row Fx of the op code map (R105, R112). -/
def opRowF : List OpCell := [
  .two .beq, .two .sbcIzy, .two .sbcIzp, .one .rsvf3,
  .two .rsvf4, .two .sbcZpx, .two .incZpx, .one .rsvf7,
  .one .sed, .three .sbcAby, .one .plx, .one .rsvfb,
  .three .rsvfc, .three .sbcAbx, .three .incAbx, .one .rsvff]

/-- The whole op code map, indexed by byte 0 (R105, R112). -/
def opcodeMap : List OpCell :=
  opRow0 ++ opRow1 ++ opRow2 ++ opRow3 ++ opRow4 ++ opRow5 ++ opRow6 ++ opRow7 ++
  opRow8 ++ opRow9 ++ opRowA ++ opRowB ++ opRowC ++ opRowD ++ opRowE ++ opRowF

theorem opcodeMap_length : opcodeMap.length = 256 := by
  simp only [opcodeMap, List.length_append]; rfl

/-- The cell of an op code; every byte has one (R113). -/
def opcodeCell (op : Byte) : OpCell :=
  opcodeMap.get ⟨op.toNat, by rw [opcodeMap_length]; exact op.isLt⟩

/-- Why a byte string is not a complete instruction. -/
inductive DecodeError where
  /-- There is no op code byte. -/
  | noOpcode
  /-- The op code `op` needs more operand bytes than follow it. -/
  | missingOperand (op : Byte)
deriving DecidableEq, Repr

/-- Reads one instruction and answers it with the bytes after it (R114), or refuses by name. -/
def decode : List Byte → Except DecodeError (Instr × List Byte)
  | [] => .error .noOpcode
  | op :: rest =>
    match opcodeCell op, rest with
    | .one i, rest => .ok (i, rest)
    | .two f, b1 :: rest => .ok (f b1, rest)
    | .three f, b1 :: b2 :: rest => .ok (f (joinBytes b2 b1), rest)
    | .two _, [] => .error (.missingOperand op)
    | .three _, [] => .error (.missingOperand op)
    | .three _, [_] => .error (.missingOperand op)

/-- The bytes of a 16-bit operand, low byte first (R62, R102). -/
def addrBytes (addr : Addr) : List Byte := [lowByte addr, highByte addr]

/-- The bytes of an instruction, op code first (R100, R102, R106, R112). -/
def encode : Instr → List Byte
  | .brk => [0x00]
  | .oraIzx zp => [0x01, zp]
  | .rsv02 ignored => [0x02, ignored]
  | .rsv03 => [0x03]
  | .tsbZpg zp => [0x04, zp]
  | .oraZpg zp => [0x05, zp]
  | .aslZpg zp => [0x06, zp]
  | .rsv07 => [0x07]
  | .php => [0x08]
  | .oraImm imm => [0x09, imm]
  | .aslAcc => [0x0A]
  | .rsv0b => [0x0B]
  | .tsbAbs addr => 0x0C :: addrBytes addr
  | .oraAbs addr => 0x0D :: addrBytes addr
  | .aslAbs addr => 0x0E :: addrBytes addr
  | .rsv0f => [0x0F]
  | .bpl off => [0x10, off]
  | .oraIzy zp => [0x11, zp]
  | .oraIzp zp => [0x12, zp]
  | .rsv13 => [0x13]
  | .trbZpg zp => [0x14, zp]
  | .oraZpx zp => [0x15, zp]
  | .aslZpx zp => [0x16, zp]
  | .rsv17 => [0x17]
  | .clc => [0x18]
  | .oraAby addr => 0x19 :: addrBytes addr
  | .ina => [0x1A]
  | .rsv1b => [0x1B]
  | .trbAbs addr => 0x1C :: addrBytes addr
  | .oraAbx addr => 0x1D :: addrBytes addr
  | .aslAbx addr => 0x1E :: addrBytes addr
  | .rsv1f => [0x1F]
  | .jsr addr => 0x20 :: addrBytes addr
  | .andIzx zp => [0x21, zp]
  | .rsv22 ignored => [0x22, ignored]
  | .rsv23 => [0x23]
  | .bitZpg zp => [0x24, zp]
  | .andZpg zp => [0x25, zp]
  | .rolZpg zp => [0x26, zp]
  | .rsv27 => [0x27]
  | .plp => [0x28]
  | .andImm imm => [0x29, imm]
  | .rolAcc => [0x2A]
  | .rsv2b => [0x2B]
  | .bitAbs addr => 0x2C :: addrBytes addr
  | .andAbs addr => 0x2D :: addrBytes addr
  | .rolAbs addr => 0x2E :: addrBytes addr
  | .rsv2f => [0x2F]
  | .bmi off => [0x30, off]
  | .andIzy zp => [0x31, zp]
  | .andIzp zp => [0x32, zp]
  | .rsv33 => [0x33]
  | .bitZpx zp => [0x34, zp]
  | .andZpx zp => [0x35, zp]
  | .rolZpx zp => [0x36, zp]
  | .rsv37 => [0x37]
  | .sec => [0x38]
  | .andAby addr => 0x39 :: addrBytes addr
  | .dea => [0x3A]
  | .rsv3b => [0x3B]
  | .bitAbx addr => 0x3C :: addrBytes addr
  | .andAbx addr => 0x3D :: addrBytes addr
  | .rolAbx addr => 0x3E :: addrBytes addr
  | .rsv3f => [0x3F]
  | .rti => [0x40]
  | .eorIzx zp => [0x41, zp]
  | .rsv42 ignored => [0x42, ignored]
  | .rsv43 => [0x43]
  | .rsv44 ignored => [0x44, ignored]
  | .eorZpg zp => [0x45, zp]
  | .lsrZpg zp => [0x46, zp]
  | .rsv47 => [0x47]
  | .pha => [0x48]
  | .eorImm imm => [0x49, imm]
  | .lsrAcc => [0x4A]
  | .rsv4b => [0x4B]
  | .jmpAbs addr => 0x4C :: addrBytes addr
  | .eorAbs addr => 0x4D :: addrBytes addr
  | .lsrAbs addr => 0x4E :: addrBytes addr
  | .rsv4f => [0x4F]
  | .bvc off => [0x50, off]
  | .eorIzy zp => [0x51, zp]
  | .eorIzp zp => [0x52, zp]
  | .rsv53 => [0x53]
  | .rsv54 ignored => [0x54, ignored]
  | .eorZpx zp => [0x55, zp]
  | .lsrZpx zp => [0x56, zp]
  | .rsv57 => [0x57]
  | .cli => [0x58]
  | .eorAby addr => 0x59 :: addrBytes addr
  | .phy => [0x5A]
  | .rsv5b => [0x5B]
  | .rsv5c ignored => 0x5C :: addrBytes ignored
  | .eorAbx addr => 0x5D :: addrBytes addr
  | .lsrAbx addr => 0x5E :: addrBytes addr
  | .rsv5f => [0x5F]
  | .rts => [0x60]
  | .adcIzx zp => [0x61, zp]
  | .rsv62 ignored => [0x62, ignored]
  | .rsv63 => [0x63]
  | .stzZpg zp => [0x64, zp]
  | .adcZpg zp => [0x65, zp]
  | .rorZpg zp => [0x66, zp]
  | .rsv67 => [0x67]
  | .pla => [0x68]
  | .adcImm imm => [0x69, imm]
  | .rorAcc => [0x6A]
  | .rsv6b => [0x6B]
  | .jmpInd addr => 0x6C :: addrBytes addr
  | .adcAbs addr => 0x6D :: addrBytes addr
  | .rorAbs addr => 0x6E :: addrBytes addr
  | .rsv6f => [0x6F]
  | .bvs off => [0x70, off]
  | .adcIzy zp => [0x71, zp]
  | .adcIzp zp => [0x72, zp]
  | .rsv73 => [0x73]
  | .stzZpx zp => [0x74, zp]
  | .adcZpx zp => [0x75, zp]
  | .rorZpx zp => [0x76, zp]
  | .rsv77 => [0x77]
  | .sei => [0x78]
  | .adcAby addr => 0x79 :: addrBytes addr
  | .ply => [0x7A]
  | .rsv7b => [0x7B]
  | .jmpIax addr => 0x7C :: addrBytes addr
  | .adcAbx addr => 0x7D :: addrBytes addr
  | .rorAbx addr => 0x7E :: addrBytes addr
  | .rsv7f => [0x7F]
  | .bra off => [0x80, off]
  | .staIzx zp => [0x81, zp]
  | .rsv82 ignored => [0x82, ignored]
  | .rsv83 => [0x83]
  | .styZpg zp => [0x84, zp]
  | .staZpg zp => [0x85, zp]
  | .stxZpg zp => [0x86, zp]
  | .rsv87 => [0x87]
  | .dey => [0x88]
  | .bitImm imm => [0x89, imm]
  | .txa => [0x8A]
  | .rsv8b => [0x8B]
  | .styAbs addr => 0x8C :: addrBytes addr
  | .staAbs addr => 0x8D :: addrBytes addr
  | .stxAbs addr => 0x8E :: addrBytes addr
  | .rsv8f => [0x8F]
  | .bcc off => [0x90, off]
  | .staIzy zp => [0x91, zp]
  | .staIzp zp => [0x92, zp]
  | .rsv93 => [0x93]
  | .styZpx zp => [0x94, zp]
  | .staZpx zp => [0x95, zp]
  | .stxZpy zp => [0x96, zp]
  | .rsv97 => [0x97]
  | .tya => [0x98]
  | .staAby addr => 0x99 :: addrBytes addr
  | .txs => [0x9A]
  | .rsv9b => [0x9B]
  | .stzAbs addr => 0x9C :: addrBytes addr
  | .staAbx addr => 0x9D :: addrBytes addr
  | .stzAbx addr => 0x9E :: addrBytes addr
  | .rsv9f => [0x9F]
  | .ldyImm imm => [0xA0, imm]
  | .ldaIzx zp => [0xA1, zp]
  | .ldxImm imm => [0xA2, imm]
  | .rsva3 => [0xA3]
  | .ldyZpg zp => [0xA4, zp]
  | .ldaZpg zp => [0xA5, zp]
  | .ldxZpg zp => [0xA6, zp]
  | .rsva7 => [0xA7]
  | .tay => [0xA8]
  | .ldaImm imm => [0xA9, imm]
  | .tax => [0xAA]
  | .rsvab => [0xAB]
  | .ldyAbs addr => 0xAC :: addrBytes addr
  | .ldaAbs addr => 0xAD :: addrBytes addr
  | .ldxAbs addr => 0xAE :: addrBytes addr
  | .rsvaf => [0xAF]
  | .bcs off => [0xB0, off]
  | .ldaIzy zp => [0xB1, zp]
  | .ldaIzp zp => [0xB2, zp]
  | .rsvb3 => [0xB3]
  | .ldyZpx zp => [0xB4, zp]
  | .ldaZpx zp => [0xB5, zp]
  | .ldxZpy zp => [0xB6, zp]
  | .rsvb7 => [0xB7]
  | .clv => [0xB8]
  | .ldaAby addr => 0xB9 :: addrBytes addr
  | .tsx => [0xBA]
  | .rsvbb => [0xBB]
  | .ldyAbx addr => 0xBC :: addrBytes addr
  | .ldaAbx addr => 0xBD :: addrBytes addr
  | .ldxAby addr => 0xBE :: addrBytes addr
  | .rsvbf => [0xBF]
  | .cpyImm imm => [0xC0, imm]
  | .cmpIzx zp => [0xC1, zp]
  | .rsvc2 ignored => [0xC2, ignored]
  | .rsvc3 => [0xC3]
  | .cpyZpg zp => [0xC4, zp]
  | .cmpZpg zp => [0xC5, zp]
  | .decZpg zp => [0xC6, zp]
  | .rsvc7 => [0xC7]
  | .iny => [0xC8]
  | .cmpImm imm => [0xC9, imm]
  | .dex => [0xCA]
  | .rsvcb => [0xCB]
  | .cpyAbs addr => 0xCC :: addrBytes addr
  | .cmpAbs addr => 0xCD :: addrBytes addr
  | .decAbs addr => 0xCE :: addrBytes addr
  | .rsvcf => [0xCF]
  | .bne off => [0xD0, off]
  | .cmpIzy zp => [0xD1, zp]
  | .cmpIzp zp => [0xD2, zp]
  | .rsvd3 => [0xD3]
  | .rsvd4 ignored => [0xD4, ignored]
  | .cmpZpx zp => [0xD5, zp]
  | .decZpx zp => [0xD6, zp]
  | .rsvd7 => [0xD7]
  | .cld => [0xD8]
  | .cmpAby addr => 0xD9 :: addrBytes addr
  | .phx => [0xDA]
  | .rsvdb => [0xDB]
  | .rsvdc ignored => 0xDC :: addrBytes ignored
  | .cmpAbx addr => 0xDD :: addrBytes addr
  | .decAbx addr => 0xDE :: addrBytes addr
  | .rsvdf => [0xDF]
  | .cpxImm imm => [0xE0, imm]
  | .sbcIzx zp => [0xE1, zp]
  | .rsve2 ignored => [0xE2, ignored]
  | .rsve3 => [0xE3]
  | .cpxZpg zp => [0xE4, zp]
  | .sbcZpg zp => [0xE5, zp]
  | .incZpg zp => [0xE6, zp]
  | .rsve7 => [0xE7]
  | .inx => [0xE8]
  | .sbcImm imm => [0xE9, imm]
  | .nop => [0xEA]
  | .rsveb => [0xEB]
  | .cpxAbs addr => 0xEC :: addrBytes addr
  | .sbcAbs addr => 0xED :: addrBytes addr
  | .incAbs addr => 0xEE :: addrBytes addr
  | .rsvef => [0xEF]
  | .beq off => [0xF0, off]
  | .sbcIzy zp => [0xF1, zp]
  | .sbcIzp zp => [0xF2, zp]
  | .rsvf3 => [0xF3]
  | .rsvf4 ignored => [0xF4, ignored]
  | .sbcZpx zp => [0xF5, zp]
  | .incZpx zp => [0xF6, zp]
  | .rsvf7 => [0xF7]
  | .sed => [0xF8]
  | .sbcAby addr => 0xF9 :: addrBytes addr
  | .plx => [0xFA]
  | .rsvfb => [0xFB]
  | .rsvfc ignored => 0xFC :: addrBytes ignored
  | .sbcAbx addr => 0xFD :: addrBytes addr
  | .incAbx addr => 0xFE :: addrBytes addr
  | .rsvff => [0xFF]

/-- An instruction is well formed when its bytes are a complete instruction by R101. Every instruction is:
operand bytes are never checked (R113). -/
def Instr.wellFormed (i : Instr) : Bool := wellFormedBytes (encode i)

/-- Byte `k` of an instruction whose bits are `w`, bit 0 the least significant bit of the first byte. -/
def tableByte (w k : Nat) : Byte := BitVec.ofNat 8 (w / 256 ^ k)

/-- The bytes of the opcode table's word of `nbits` bits, with zeros above, up to the longest instruction. -/
def tableBytes (nbits w : Nat) : List Byte :=
  let w := w % 2 ^ nbits
  [tableByte w 0, tableByte w 1, tableByte w 2]

/-- The instruction the decoder reads from an opcode-table word, or none where it refuses. -/
def decodeTableWord (nbits w : Nat) : Option Instr :=
  match decode (tableBytes nbits w) with
  | .ok (i, _) => some i
  | .error _ => none

end Sys2Proof
end

