-- ==== Sys2Proof/Config.lean ====
section
/-! DEFINITION. The values the spec leaves open ("draws", R16), as constants with no body: nothing can
be proved about what they are. Each is applied to a count of State that grows, so that every draw is a fresh
value. -/

namespace Sys2Proof

/-- What a read of memory is for: the kinds of architected reads that R65 lists. Within one step, the reads of one
kind are all at different addresses. -/
inductive Access where
  /-- The op code and the operand bytes, (1) and (2) of R65. -/
  | fetch
  /-- The pointer bytes of an indirect mode, (3) of R65. -/
  | pointer
  /-- The byte at the effective address, (4) of R65. -/
  | data
  /-- A byte that is pulled, (5) of R65. -/
  | stack
  /-- The two bytes of a vector (R68). -/
  | vector
deriving DecidableEq, Repr

end Sys2Proof

namespace Sys2Proof.Config

/-- What a read gives at an address where the platform has a device or nothing (`mem_map`: R69, R71, D25, U12;
log 3): of the number of steps made, what the read is for, and its address, which no two reads of a run share
(log 19). -/
opaque busValue : Nat → Access → Addr → Byte

/-- `decimal_V` (R182, R183, D9; log 7): V after a decimal ADC or SBC on valid BCD operands. -/
opaque decimalV : Nat → Bool

/-- `decimal_invalid` (R182, R183, D8, U5; log 8): A after a decimal ADC or SBC with an operand that is
not valid BCD. -/
opaque invalidA : Nat → Byte

/-- `decimal_invalid`: N after such an operation (log 8). -/
opaque invalidN : Nat → Bool

/-- `decimal_invalid`: V after such an operation (log 8). -/
opaque invalidV : Nat → Bool

/-- `decimal_invalid`: Z after such an operation (log 8). -/
opaque invalidZ : Nat → Bool

/-- `decimal_invalid`: C after such an operation (log 8). -/
opaque invalidC : Nat → Bool

/-- The MAY of R275 (D10, U16; log 6): whether IRQ is taken at a boundary where the line is low and
exactly one of I_before, I_after is 0. -/
opaque irqChoice : Nat → Bool

/-- V after an instruction that writes V and during which an SO edge arrived (R274, D12, U18; log 10). -/
opaque soRaceV : Nat → Bool

/-- `reset_draws` (R301, D5, U10; log 9): A after a RES event. -/
opaque resetA : Nat → Byte

/-- `reset_draws`: X after a RES event (log 9). -/
opaque resetX : Nat → Byte

/-- `reset_draws`: Y after a RES event (log 9). -/
opaque resetY : Nat → Byte

/-- `reset_draws`: S after a RES event (log 9). -/
opaque resetS : Nat → Byte

/-- `reset_draws`: N after a RES event (log 9). -/
opaque resetN : Nat → Bool

/-- `reset_draws`: V after a RES event (log 9). -/
opaque resetV : Nat → Bool

/-- `reset_draws`: Z after a RES event (log 9). -/
opaque resetZ : Nat → Bool

/-- `reset_draws`: C after a RES event (log 9). -/
opaque resetC : Nat → Bool

end Sys2Proof.Config
end

