-- ==== Sys2Proof/Machine/Memory.lean ====
section
/-! DEFINITION. Memory: 65,536 bytes (R40, R60), held as a list of (address, byte) pairs in one canonical
form. What a read or a write does at an address is the memory map's matter (Machine/Map.lean). -/

namespace Sys2Proof.Machine

/-- The memory: addresses strictly rising, all below 65,536, and no entry equal to what an unlisted address
reads as (`Memory.wf`). -/
abbrev Memory := List Host.Cell

/-- What an address with no entry reads as. DESIGN CHOICE (log 2), unsafe: the spec states no power-up
contents (`mem_init`, R45, U11). -/
def Memory.unlisted : Byte := 0x00#8

/-- The byte stored at an address. -/
def Memory.read : Memory → Nat → Byte
  | [], _ => Memory.unlisted
  | (k, v) :: rest, a => if k = a then v else Memory.read rest a

/-- Puts an entry in its place among rising addresses. -/
def Memory.insert : Memory → Nat → Byte → Memory
  | [], a, v => [(a, v)]
  | (k, w) :: rest, a, v =>
    if a < k then (a, v) :: (k, w) :: rest else (k, w) :: Memory.insert rest a v

/-- Stores a byte: drops the address's entry, and lists it anew unless `v` is what an
unlisted address reads as. -/
def Memory.write (m : Memory) (a : Nat) (v : Byte) : Memory :=
  let rest := m.filter fun cell => cell.1 != a
  if v = Memory.unlisted then rest else Memory.insert rest a v

/-- `Read16(a)` (R11): low byte from `a`, high byte from `a + 1` modulo 65536. -/
def Memory.read16 (m : Memory) (a : Addr) : Addr :=
  joinBytes (Memory.read m (a + 1).toNat) (Memory.read m a.toNat)

/-- The entries rise strictly from `low` on, lie below 65,536, and none is redundant. -/
def Memory.risesFrom : Nat → Memory → Bool
  | _, [] => true
  | low, (k, v) :: rest =>
    decide (low ≤ k) && decide (k < 65536) && v != Memory.unlisted && Memory.risesFrom (k + 1) rest

/-- The canonical form. -/
def Memory.wf (m : Memory) : Bool := Memory.risesFrom 0 m

end Sys2Proof.Machine
end

