-- ==== Sys2Proof/Machine/Map.lean ====
section
/-! DEFINITION. The platform's memory map, `mem_map` (R8, R40, R69, D6): what is at each of the 65,536 addresses,
and what a write does there (D25, U12). -/

namespace Sys2Proof.Machine

/-- What the platform has at an address (R40, R69). -/
inductive AreaKind where
  /-- RAM: reads give what is stored, writes store. -/
  | ram
  /-- ROM: reads give what is stored, writes are ignored (D25, U12). -/
  | rom
  /-- A device: a read gives any value, a write goes to the device and stores nothing (R71; log 3). -/
  | device
  /-- Nothing: a read gives any value, a write is ignored (D25, U12). -/
  | nothing
deriving DecidableEq, Repr

/-- The addresses from `first` to `last`, both among them, and what is there. -/
structure Area where
  /-- The lowest address. -/
  first : Addr
  /-- The highest address. -/
  last : Addr
  /-- What is there. -/
  kind : AreaKind
deriving DecidableEq, Repr

/-- The memory map: the first area that has an address says what is there; an address in no area is RAM, so the
empty map is the 64 K of RAM that R69 recommends. -/
abbrev MemMap := List Area

/-- Whether the area has the address. -/
def Area.has (r : Area) (a : Addr) : Bool :=
  decide (r.first.toNat ≤ a.toNat) && decide (a.toNat ≤ r.last.toNat)

/-- What is at an address. -/
def MemMap.kindAt : MemMap → Addr → AreaKind
  | [], _ => .ram
  | r :: rest, a => bif r.has a then r.kind else MemMap.kindAt rest a

/-- Whether a read gives what is stored: RAM and ROM (R71). -/
def AreaKind.holds : AreaKind → Bool
  | .ram | .rom => true
  | .device | .nothing => false

/-- Whether a write stores: RAM alone (D25, U12). -/
def AreaKind.stores : AreaKind → Bool
  | .ram => true
  | .rom | .device | .nothing => false

/-- The memory after a write (R11, R69). -/
def MemMap.store (map : MemMap) (m : Memory) (a : Addr) (v : Byte) : Memory :=
  bif (map.kindAt a).stores then Memory.write m a.toNat v else m

end Sys2Proof.Machine
end

