-- ==== Sys2Proof/Machine/State.lean ====
section
/-! DEFINITION. The machine's state as plain data: the tuple at the head of spec/10_state.md, the
platform's memory map, and four fields of the model's own (`iBefore`, `draws`, `steps`, `env`). -/

namespace Sys2Proof.Machine

/-- The six stored flags of P (R26). Bits 5 and 4 (B) of P hold no state (R29, R30). -/
structure Flags where
  /-- N, negative (R27). -/
  n : Bool
  /-- V, overflow (R28). -/
  v : Bool
  /-- D, decimal mode (R33). -/
  d : Bool
  /-- I, interrupt disable (R34). -/
  i : Bool
  /-- Z, zero (R35). -/
  z : Bool
  /-- C, carry (R36). -/
  c : Bool
deriving DecidableEq, Repr

/-- What the environment does at one boundary and during the step that follows it: the inputs of R46 (log 4). -/
structure Inputs where
  /-- `irq_line`: IRQ is held low at this boundary's sampling point (R42, R272). -/
  irqLow : Bool
  /-- `nmi_edges`: a falling edge on NMI has arrived by this boundary (R273). -/
  nmiEdge : Bool
  /-- `res_events`: RES is pulsed at this boundary (R302). -/
  res : Bool
  /-- `so_edges`: a falling edge on SO at this boundary (R274). -/
  soEdge : Bool
  /-- `so_edges`: a falling edge on SO during the step after this boundary (R274; log 10). -/
  soDuring : Bool
deriving DecidableEq, Repr

/-- No input asserted: what unconnected pins read as (U21). -/
def Inputs.quiet : Inputs := ⟨false, false, false, false, false⟩

/-- The state of the machine. -/
structure State where
  /-- A, the accumulator (R20). -/
  a : Byte
  /-- X, index register (R21). -/
  x : Byte
  /-- Y, index register (R21). -/
  y : Byte
  /-- S, the stack pointer (R22). -/
  sp : Byte
  /-- The program counter (R24). -/
  pc : Addr
  /-- The stored flags of P, the processor status register (R26). -/
  p : Flags
  /-- The 65,536 bytes of memory (R40). -/
  mem : Memory
  /-- The platform's `mem_map` (R8, R40, R69); no step changes it (log 3). -/
  map : MemMap
  /-- `nmi_pending` (R41). -/
  nmiPending : Bool
  /-- The model's own: the I flag before the instruction just completed, `I_before` of R275 (log 6). -/
  iBefore : Bool
  /-- The model's own: how many draws (R16) have been made (log 15). -/
  draws : Nat
  /-- The model's own: how many steps have been made (log 19). -/
  steps : Nat
  /-- The model's own: what the environment does at the coming boundaries; after the last entry, nothing
  (log 4). -/
  env : List Inputs
deriving DecidableEq, Repr

/-- The machine has no synchronous faults (R270): no fault exists. -/
inductive Fault where
deriving DecidableEq, Repr

/-- Why the model refuses. -/
inductive Refusal where
  /-- An instruction that has no meaning yet, by its mnemonic; raised by `exec`'s arm alone (safe). No arm
  raises it now. -/
  | notModelled (mnemonic : String)
deriving DecidableEq, Repr

/-- The outcome of a step or of a meaning. -/
abbrev Result := Host.Outcome State Fault Refusal

/-- The state after reset (R45, R300, R301): `pc` from the restart vector, I = 1, D = 0, no NMI pending.
A, X, Y, S, N, V, Z and C, which the spec leaves unspecified, are 0: DESIGN CHOICE (log 1), unsafe. Memory has
nothing listed (log 2) and the map has no area: all of it is RAM, as R69 recommends (log 3). The model's own fields:
log 4, log 6, log 15, log 19. -/
def State.reset : State :=
  { a := 0x00#8, x := 0x00#8, y := 0x00#8, sp := 0x00#8
    pc := Memory.read16 [] 0xFFFC#16
    p := ⟨false, false, false, true, false, false⟩
    mem := []
    map := []
    nmiPending := false
    iBefore := true
    draws := 0
    steps := 0
    env := [] }

end Sys2Proof.Machine
end

