-- ==== Sys2Proof/Machine/Flags.lean ====
section
/-! DEFINITION. Every computation of flags: `setNZ`, the byte image of P, and the results and flags of the
arithmetic, compare, bit-test and shift instructions. -/

namespace Sys2Proof.Machine

/-- `setNZ(v)` (R13). -/
def Flags.setNZ (p : Flags) (v : Byte) : Flags :=
  { p with n := v.msb, z := v == 0#8 }

/-- `P_image(b)` (R31): N V 1 b D I Z C from bit 7 to bit 0. -/
def Flags.image (p : Flags) (b : Bool) : Byte :=
  BitVec.ofBool p.n ++ BitVec.ofBool p.v ++ 1#1 ++ BitVec.ofBool b ++
    BitVec.ofBool p.d ++ BitVec.ofBool p.i ++ BitVec.ofBool p.z ++ BitVec.ofBool p.c

/-- `P_load(v)` (R32): bits 5 and 4 are discarded. -/
def Flags.load (v : Byte) : Flags :=
  { n := v.getLsbD 7, v := v.getLsbD 6, d := v.getLsbD 3
    i := v.getLsbD 2, z := v.getLsbD 1, c := v.getLsbD 0 }

/-- A byte result with the carry and overflow computed beside it. -/
structure Sum where
  /-- The result byte. -/
  r : Byte
  /-- The carry out (for a subtraction, 1 = no borrow). -/
  c : Bool
  /-- The overflow. -/
  v : Bool
deriving DecidableEq, Repr

/-- Binary ADC (R180): `A + M + C`, carry out and signed overflow. -/
def addBinary (a m : Byte) (c : Bool) : Sum :=
  let t := a.toNat + m.toNat + c.toNat
  let r : Byte := BitVec.ofNat 8 t
  { r := r, c := decide (256 ≤ t), v := ((a ^^^ r) &&& (m ^^^ r)).msb }

/-- Binary SBC (R181): `A + (255 - M) + C`, carry out (no borrow) and signed overflow. -/
def subBinary (a m : Byte) (c : Bool) : Sum :=
  let t := a.toNat + (255 - m.toNat) + c.toNat
  let r : Byte := BitVec.ofNat 8 t
  { r := r, c := decide (256 ≤ t), v := ((a ^^^ m) &&& (a ^^^ r)).msb }

/-- Both nibbles are decimal digits: a valid BCD byte (R16). -/
def validBcd (b : Byte) : Bool := decide (b.toNat / 16 ≤ 9) && decide (b.toNat % 16 ≤ 9)

/-- `dec(b)` (R182): the value of two decimal digits. -/
def decOf (b : Byte) : Nat := 10 * (b.toNat / 16) + b.toNat % 16

/-- `bcd(n)` (R182): the two digits of `n`, at most 99. -/
def bcdOf (n : Nat) : Byte := BitVec.ofNat 8 (16 * (n / 10) + n % 10)

/-- The sum of a decimal ADC on valid BCD operands, 0 to 199 (R182). -/
def decimalSum (a m : Byte) (c : Bool) : Nat := decOf a + decOf m + c.toNat

/-- The difference of a decimal SBC on valid BCD operands, -100 to 99 (R183). -/
def decimalDiff (a m : Byte) (c : Bool) : Int := (decOf a : Int) - decOf m - (1 - c.toNat)

/-- Decimal ADC on valid BCD operands (R182); V is the open parameter `decimal_V`, given by the caller. -/
def addDecimal (a m : Byte) (c v : Bool) : Sum :=
  let s := decimalSum a m c
  { r := bcdOf (s % 100), c := decide (100 ≤ s), v := v }

/-- Decimal SBC on valid BCD operands (R183); V is the open parameter `decimal_V`, given by the caller. -/
def subDecimal (a m : Byte) (c v : Bool) : Sum :=
  let d := decimalDiff a m c
  { r := bcdOf (if d < 0 then d + 100 else d).toNat, c := decide (0 ≤ d), v := v }

/-- The flags of CMP, CPX and CPY (R184 to R186): C is `reg ≥ m` unsigned, Z is equality, N is bit 7 of the
8-bit difference. -/
def Flags.compare (p : Flags) (reg m : Byte) : Flags :=
  { p with n := (reg - m).msb, z := reg == m, c := decide (m.toNat ≤ reg.toNat) }

/-- The test of BIT, TSB and TRB (R203 to R205): Z alone. -/
def Flags.testBits (p : Flags) (a m : Byte) : Flags :=
  { p with z := a &&& m == 0#8 }

/-- BIT on memory (R203): Z from the test, N and V from bits 7 and 6 of the operand. -/
def Flags.testMemory (p : Flags) (a m : Byte) : Flags :=
  { p.testBits a m with n := m.getLsbD 7, v := m.getLsbD 6 }

/-- The operations of R206: from an operand and the old carry to a result and the new carry. -/
abbrev Shift := Byte → Bool → Byte × Bool

/-- ASL (R207). -/
def shiftAsl : Shift := fun v _ => (BitVec.ofNat 8 (2 * v.toNat), v.getLsbD 7)

/-- LSR (R208). -/
def shiftLsr : Shift := fun v _ => (BitVec.ofNat 8 (v.toNat / 2), v.getLsbD 0)

/-- ROL (R209). -/
def shiftRol : Shift := fun v c => (BitVec.ofNat 8 (2 * v.toNat + c.toNat), v.getLsbD 7)

/-- ROR (R210). -/
def shiftRor : Shift := fun v c => (BitVec.ofNat 8 (v.toNat / 2 + 128 * c.toNat), v.getLsbD 0)

end Sys2Proof.Machine
end

