-- ==== Sys2Proof/Machine/Ops.lean ====
section
/-! DEFINITION. The named operations over registers and memory: register writes, byte accesses, the stack,
and the sequences that pass control through a vector, with the return from them. -/

namespace Sys2Proof.Machine

/-- `A <- v` (R10). -/
def State.setA (s : State) (v : Byte) : State := { s with a := v }

/-- `X <- v` (R10). -/
def State.setX (s : State) (v : Byte) : State := { s with x := v }

/-- `Y <- v` (R10). -/
def State.setY (s : State) (v : Byte) : State := { s with y := v }

/-- `S <- v` (R10). -/
def State.setS (s : State) (v : Byte) : State := { s with sp := v }

/-- `pc <- target` (R10). -/
def State.setPc (s : State) (target : Addr) : State := { s with pc := target }

/-- Replaces the stored flags. -/
def State.setP (s : State) (p : Flags) : State := { s with p := p }

/-- `setNZ(v)` on the machine's flags (R13). -/
def State.setNZ (s : State) (v : Byte) : State := s.setP (s.p.setNZ v)

/-- What is at an address (R40, R69). -/
def State.kindAt (s : State) (addr : Addr) : AreaKind := s.map.kindAt addr

/-- `MemRead(addr, 1)` (R11), made for the purpose `u`: the stored byte of RAM and ROM, any value elsewhere
(R71, D25, U12; log 3). -/
def State.readAs (s : State) (u : Access) (addr : Addr) : Byte :=
  bif (s.kindAt addr).holds then Memory.read s.mem addr.toNat else Config.busValue s.steps u addr

/-- `MemRead(ea, 1)` of a data byte (R11, R65). -/
def State.read (s : State) (addr : Addr) : Byte := s.readAs .data addr

/-- `MemWrite(addr, 1, v)` (R11): stores in RAM, and does nothing elsewhere (D25, U12; log 3). -/
def State.write (s : State) (addr : Addr) (v : Byte) : State :=
  { s with mem := s.map.store s.mem addr v }

/-- `Read16(a)` (R11): the high byte is at `a + 1` modulo 65536. -/
def State.read16 (s : State) (u : Access) (a : Addr) : Addr :=
  joinBytes (s.readAs u (a + 1)) (s.readAs u a)

/-- `Read16zp(z)` (R11, R142): the high byte is in page zero too, at `z + 1` modulo 256. -/
def State.read16zp (s : State) (z : Byte) : Addr :=
  joinBytes (s.readAs .pointer (zext16 (z + 1))) (s.readAs .pointer (zext16 z))

/-- The address that a value of S denotes, `0x0100 + S` (R22). -/
def stackAddr (sp : Byte) : Addr := joinBytes 0x01#8 sp

/-- `push(v)` (R12): store, then decrement. -/
def State.push (s : State) (v : Byte) : State :=
  (s.write (stackAddr s.sp) v).setS (s.sp - 1)

/-- `pull()` (R12): increment, then read. -/
def State.pull (s : State) : Byte × State :=
  let t := s.setS (s.sp + 1)
  (t.readAs .stack (stackAddr t.sp), t)

/-- Pushes a 16-bit value, high byte first (R231, R279). -/
def State.pushAddr (s : State) (addr : Addr) : State :=
  (s.push (highByte addr)).push (lowByte addr)

/-- Pulls a 16-bit value, low byte first (R232, R257). -/
def State.pullAddr (s : State) : Addr × State :=
  let (lo, s1) := s.pull
  let (hi, s2) := s1.pull
  (joinBytes hi lo, s2)

/-- Counts one draw (R16; log 15). -/
def State.drew (s : State) : State := { s with draws := s.draws + 1 }

/-! ### Taking an interrupt, and the return from it -/

/-- `common_entry(b, vector)` (R279): pushes PCH, PCL and the image of P with B = `b`; sets I and clears D;
`pc` from the vector. -/
def State.enter (s : State) (b : Bool) (vector : Addr) : State :=
  let pushed := (s.pushAddr s.pc).push (s.p.image b)
  let masked := pushed.setP { s.p with i := true, d := false }
  masked.setPc (masked.read16 .vector vector)

/-- The end of a step: records the I flag that the coming boundary takes as `I_before` (R275), and counts the
step (log 19). -/
def State.completed (s : State) (i : Bool) : State := { s with iBefore := i, steps := s.steps + 1 }

/-- The interrupt sequences leave no instruction just completed: `I_before = I_after = I` at the next
boundary (R275). -/
def State.afterSequence (s : State) : State := s.completed s.p.i

/-- The IRQ sequence (R276). -/
def State.irqSequence (s : State) : State := (s.enter false 0xFFFE#16).afterSequence

/-- The NMI sequence (R277): the request is used up. -/
def State.nmiSequence (s : State) : State :=
  (({ s with nmiPending := false } : State).enter false 0xFFFA#16).afterSequence

/-- The BRK sequence (R256, R278): `pc`, already past the op code, is advanced once more before it is
pushed. -/
def State.breakSequence (s : State) : State := (s.setPc (s.pc + 1)).enter true 0xFFFE#16

/-- The reset sequence as an event (R300 to R302): I = 1, D = 0, `pc` from the restart vector, no NMI
pending, memory kept; A, X, Y, S, N, V, Z and C are drawn (log 9). -/
def State.resSequence (s : State) : State :=
  let k := s.draws
  let t : State :=
    { s with
      a := Config.resetA k, x := Config.resetX k, y := Config.resetY k, sp := Config.resetS k
      p := { n := Config.resetN k, v := Config.resetV k, d := false
             i := true, z := Config.resetZ k, c := Config.resetC k }
      pc := s.read16 .vector 0xFFFC#16
      nmiPending := false }
  t.drew.afterSequence

/-- The return from an interrupt (R257, R283): the flags, then the address, with no `+ 1`. -/
def State.returnFromInterrupt (s : State) : State :=
  let (v, s1) := s.pull
  let (target, s2) := (s1.setP (Flags.load v)).pullAddr
  s2.setPc target

/-! ### The SO input -/

/-- A falling edge on SO sets V (R274). -/
def State.setOverflow (s : State) : State := s.setP { s.p with v := true }

/-- An SO edge during an instruction (R274, D12; log 10): V is a draw if the instruction writes V, and is set
otherwise. -/
def State.overflowDuring (s : State) (writesV : Bool) : State :=
  if writesV then (s.setP { s.p with v := Config.soRaceV s.draws }).drew else s.setOverflow

end Sys2Proof.Machine
end

