-- ==== Sys2Proof/Machine/Fetch.lean ====
section
/-! DEFINITION. Fetching: the instruction at `pc` (R15), the bytes there, and placing an instruction there. -/

namespace Sys2Proof.Machine

/-- The op code map's cell for the byte at `pc`. -/
def State.cellAtPc (s : State) : OpCell := opcodeCell (s.readAs .fetch s.pc)

/-- The instruction at `pc` (R15): the op code, then as many operand bytes as it has, at ascending
addresses modulo 65536 (R25). -/
def State.fetch (s : State) : Instr :=
  match s.cellAtPc with
  | .one i => i
  | .two f => f (s.readAs .fetch (s.pc + 1))
  | .three f => f (joinBytes (s.readAs .fetch (s.pc + 2)) (s.readAs .fetch (s.pc + 1)))

/-- Moves `pc` past the instruction it addresses (R15). -/
def State.advance (s : State) : State := s.setPc (s.pc + BitVec.ofNat 16 s.cellAtPc.length)

/-- The three bytes from `pc` on, as many as the longest instruction has. -/
def State.bytesAtPc (s : State) : List Byte :=
  [s.readAs .fetch s.pc, s.readAs .fetch (s.pc + 1), s.readAs .fetch (s.pc + 2)]

/-- Whether the instruction writes V: ADC, SBC, BIT on memory, CLV, PLP and RTI (R28, R37, R274). -/
def writesV : Instr → Bool
  | .adcIzx _ | .adcZpg _ | .adcImm _ | .adcAbs _ | .adcIzy _
  | .adcIzp _ | .adcZpx _ | .adcAby _ | .adcAbx _
  | .sbcIzx _ | .sbcZpg _ | .sbcImm _ | .sbcAbs _ | .sbcIzy _
  | .sbcIzp _ | .sbcZpx _ | .sbcAby _ | .sbcAbx _
  | .bitZpg _ | .bitAbs _ | .bitZpx _ | .bitAbx _
  | .clv | .plp | .rti => true
  | _ => false

/-- The state with no event at the coming boundary. -/
def State.withQuietBoundary (s : State) : State :=
  { s with
    nmiPending := false
    env := match s.env with
      | [] => []
      | _ :: rest => Inputs.quiet :: rest }

/-- The state with a byte put in memory from outside (log 5): in ROM too; where the map has a device or nothing, one
byte of RAM is put in its place, so that the byte can be fetched. -/
def State.place (s : State) (a : Addr) (b : Byte) : State :=
  { s with
    mem := Memory.write s.mem a.toNat b
    map := if (s.kindAt a).holds then s.map else ⟨a, a, .ram⟩ :: s.map }

/-- The state with three bytes put from `pc` on. -/
def State.storeAtPc (s : State) (b0 b1 b2 : Byte) : State :=
  ((s.place s.pc b0).place (s.pc + 1) b1).place (s.pc + 2) b2

/-- The state with the bytes of an opcode-table word, zeros above, from `pc` on, and no event at the coming
boundary (log 5). -/
def State.placeWord (s : State) (nbits w : Nat) : State :=
  let word := w % 2 ^ nbits
  (s.storeAtPc (tableByte word 0) (tableByte word 1) (tableByte word 2)).withQuietBoundary

end Sys2Proof.Machine
end

