-- ==== Sys2Proof/Machine/Boundary.lean ====
section
/-! DEFINITION. What happens at an instruction boundary: sampling the inputs, and whether IRQ is taken (R275). -/

namespace Sys2Proof.Machine

/-- The inputs at the coming boundary; after the end of `env`, nothing is asserted (log 4). -/
def State.inputs (s : State) : Inputs := s.env.headD Inputs.quiet

/-- Takes in the inputs of a boundary: an SO edge sets V (R274), an NMI edge sets `nmi_pending` (R41, R273). -/
def State.sample (s : State) (e : Inputs) : State :=
  { s with
    p := { s.p with v := s.p.v || e.soEdge }
    nmiPending := s.nmiPending || e.nmiEdge }

/-- IRQ MAY be taken (R275): the line is low, and I was 0 before or after the instruction just completed. -/
def State.irqMay (s : State) (e : Inputs) : Bool := e.irqLow && (!s.iBefore || !s.p.i)

/-- IRQ MUST be taken (R275): the line is low, and I was 0 both before and after. -/
def State.irqMust (s : State) (e : Inputs) : Bool := e.irqLow && (!s.iBefore && !s.p.i)

/-- Whether IRQ is taken: as it must, or, where it may but need not, as a draw says (D10, U16; log 6). -/
def State.irqTaken (s : State) (e : Inputs) : Bool :=
  s.irqMust e || (s.irqMay e && Config.irqChoice s.draws)

/-- Counts the draw of a boundary where IRQ may but need not be taken. -/
def State.afterChoice (s : State) (e : Inputs) : State :=
  if s.irqMay e && !s.irqMust e then s.drew else s

/-- What an SO edge during the step does at its end (R274; log 10). -/
def State.overflowIf (s : State) (e : Inputs) (writesV : Bool) : State :=
  if e.soDuring then s.overflowDuring writesV else s

end Sys2Proof.Machine
end

