-- ==== Sys2Proof/Machine/Operands.lean ====
section
/-! DEFINITION. The addressing modes: from the operand field and the registers to an effective address or a
jump target (R130 to R148). IMM and ACC need no function: the operand is the operand byte, or A (R132, R133). -/

namespace Sys2Proof.Machine

/-- ZPG (R135). -/
def State.eaZpg (_s : State) (zp : Byte) : Addr := zext16 zp

/-- ZPX (R138): the sum stays in page zero. -/
def State.eaZpx (s : State) (zp : Byte) : Addr := zext16 (zp + s.x)

/-- ZPY (R139): the sum stays in page zero. -/
def State.eaZpy (s : State) (zp : Byte) : Addr := zext16 (zp + s.y)

/-- ABS (R134). -/
def State.eaAbs (_s : State) (addr : Addr) : Addr := addr

/-- ABX (R136): 16-bit sum, X unsigned. -/
def State.eaAbx (s : State) (addr : Addr) : Addr := addr + zext16 s.x

/-- ABY (R137): 16-bit sum, Y unsigned. -/
def State.eaAby (s : State) (addr : Addr) : Addr := addr + zext16 s.y

/-- IZX (R141): pointer at `zp + X` in page zero. -/
def State.eaIzx (s : State) (zp : Byte) : Addr := s.read16zp (zp + s.x)

/-- IZY (R144): pointer at `zp` in page zero, then Y added to it. -/
def State.eaIzy (s : State) (zp : Byte) : Addr := s.read16zp zp + zext16 s.y

/-- IZP (R145): pointer at `zp` in page zero. -/
def State.eaIzp (s : State) (zp : Byte) : Addr := s.read16zp zp

/-- IND (R146): the jump target, from a pointer anywhere in memory. -/
def State.eaInd (s : State) (addr : Addr) : Addr := s.read16 .pointer addr

/-- IAX (R143): the jump target, from a pointer at the operand plus X. -/
def State.eaIax (s : State) (addr : Addr) : Addr := s.read16 .pointer (addr + zext16 s.x)

/-- REL (R140): the branch target, relative to the next instruction, which `pc` already addresses. -/
def State.targetRel (s : State) (off : Byte) : Addr := s.pc + sext16 off

end Sys2Proof.Machine
end

