-- ==== Sys2Proof/Machine/LoadStore.lean ====
section
/-! DEFINITION. The meanings of the load, store and register transfer instructions (R161 to R173). Each
meaning starts with `pc` already at the next instruction (R15, R160). -/

namespace Sys2Proof.Machine

/-- Writes A and sets N and Z from the byte (R161, R170, R171, R189, R190, R244). -/
def State.lda (s : State) (m : Byte) : State := (s.setA m).setNZ m

/-- Writes X and sets N and Z from the byte (R162, R168, R172, R191, R193, R246). -/
def State.ldx (s : State) (m : Byte) : State := (s.setX m).setNZ m

/-- Writes Y and sets N and Z from the byte (R163, R169, R192, R194, R247). -/
def State.ldy (s : State) (m : Byte) : State := (s.setY m).setNZ m

/-- LDA (zero page,X), A1 (R161). -/
def execLdaIzx (zp : Byte) (s : State) : Result := .next (s.lda (s.read (s.eaIzx zp)))

/-- LDA zero page, A5 (R161). -/
def execLdaZpg (zp : Byte) (s : State) : Result := .next (s.lda (s.read (s.eaZpg zp)))

/-- LDA immediate, A9 (R161). -/
def execLdaImm (imm : Byte) (s : State) : Result := .next (s.lda imm)

/-- LDA absolute, AD (R161). -/
def execLdaAbs (addr : Addr) (s : State) : Result := .next (s.lda (s.read (s.eaAbs addr)))

/-- LDA (zero page),Y, B1 (R161). -/
def execLdaIzy (zp : Byte) (s : State) : Result := .next (s.lda (s.read (s.eaIzy zp)))

/-- LDA (zero page), B2 (R161). -/
def execLdaIzp (zp : Byte) (s : State) : Result := .next (s.lda (s.read (s.eaIzp zp)))

/-- LDA zero page,X, B5 (R161). -/
def execLdaZpx (zp : Byte) (s : State) : Result := .next (s.lda (s.read (s.eaZpx zp)))

/-- LDA absolute,Y, B9 (R161). -/
def execLdaAby (addr : Addr) (s : State) : Result := .next (s.lda (s.read (s.eaAby addr)))

/-- LDA absolute,X, BD (R161). -/
def execLdaAbx (addr : Addr) (s : State) : Result := .next (s.lda (s.read (s.eaAbx addr)))

/-- LDX immediate, A2 (R162). -/
def execLdxImm (imm : Byte) (s : State) : Result := .next (s.ldx imm)

/-- LDX zero page, A6 (R162). -/
def execLdxZpg (zp : Byte) (s : State) : Result := .next (s.ldx (s.read (s.eaZpg zp)))

/-- LDX absolute, AE (R162). -/
def execLdxAbs (addr : Addr) (s : State) : Result := .next (s.ldx (s.read (s.eaAbs addr)))

/-- LDX zero page,Y, B6 (R162). -/
def execLdxZpy (zp : Byte) (s : State) : Result := .next (s.ldx (s.read (s.eaZpy zp)))

/-- LDX absolute,Y, BE (R162). -/
def execLdxAby (addr : Addr) (s : State) : Result := .next (s.ldx (s.read (s.eaAby addr)))

/-- LDY immediate, A0 (R163). -/
def execLdyImm (imm : Byte) (s : State) : Result := .next (s.ldy imm)

/-- LDY zero page, A4 (R163). -/
def execLdyZpg (zp : Byte) (s : State) : Result := .next (s.ldy (s.read (s.eaZpg zp)))

/-- LDY absolute, AC (R163). -/
def execLdyAbs (addr : Addr) (s : State) : Result := .next (s.ldy (s.read (s.eaAbs addr)))

/-- LDY zero page,X, B4 (R163). -/
def execLdyZpx (zp : Byte) (s : State) : Result := .next (s.ldy (s.read (s.eaZpx zp)))

/-- LDY absolute,X, BC (R163). -/
def execLdyAbx (addr : Addr) (s : State) : Result := .next (s.ldy (s.read (s.eaAbx addr)))

/-- STA (zero page,X), 81 (R164). -/
def execStaIzx (zp : Byte) (s : State) : Result := .next (s.write (s.eaIzx zp) s.a)

/-- STA zero page, 85 (R164). -/
def execStaZpg (zp : Byte) (s : State) : Result := .next (s.write (s.eaZpg zp) s.a)

/-- STA absolute, 8D (R164). -/
def execStaAbs (addr : Addr) (s : State) : Result := .next (s.write (s.eaAbs addr) s.a)

/-- STA (zero page),Y, 91 (R164). -/
def execStaIzy (zp : Byte) (s : State) : Result := .next (s.write (s.eaIzy zp) s.a)

/-- STA (zero page), 92 (R164). -/
def execStaIzp (zp : Byte) (s : State) : Result := .next (s.write (s.eaIzp zp) s.a)

/-- STA zero page,X, 95 (R164). -/
def execStaZpx (zp : Byte) (s : State) : Result := .next (s.write (s.eaZpx zp) s.a)

/-- STA absolute,Y, 99 (R164). -/
def execStaAby (addr : Addr) (s : State) : Result := .next (s.write (s.eaAby addr) s.a)

/-- STA absolute,X, 9D (R164). -/
def execStaAbx (addr : Addr) (s : State) : Result := .next (s.write (s.eaAbx addr) s.a)

/-- STX zero page, 86 (R165). -/
def execStxZpg (zp : Byte) (s : State) : Result := .next (s.write (s.eaZpg zp) s.x)

/-- STX absolute, 8E (R165). -/
def execStxAbs (addr : Addr) (s : State) : Result := .next (s.write (s.eaAbs addr) s.x)

/-- STX zero page,Y, 96 (R165). -/
def execStxZpy (zp : Byte) (s : State) : Result := .next (s.write (s.eaZpy zp) s.x)

/-- STY zero page, 84 (R166). -/
def execStyZpg (zp : Byte) (s : State) : Result := .next (s.write (s.eaZpg zp) s.y)

/-- STY absolute, 8C (R166). -/
def execStyAbs (addr : Addr) (s : State) : Result := .next (s.write (s.eaAbs addr) s.y)

/-- STY zero page,X, 94 (R166). -/
def execStyZpx (zp : Byte) (s : State) : Result := .next (s.write (s.eaZpx zp) s.y)

/-- STZ zero page, 64 (R167). -/
def execStzZpg (zp : Byte) (s : State) : Result := .next (s.write (s.eaZpg zp) 0x00#8)

/-- STZ zero page,X, 74 (R167). -/
def execStzZpx (zp : Byte) (s : State) : Result := .next (s.write (s.eaZpx zp) 0x00#8)

/-- STZ absolute, 9C (R167). -/
def execStzAbs (addr : Addr) (s : State) : Result := .next (s.write (s.eaAbs addr) 0x00#8)

/-- STZ absolute,X, 9E (R167). -/
def execStzAbx (addr : Addr) (s : State) : Result := .next (s.write (s.eaAbx addr) 0x00#8)

/-- TAX, AA (R168). -/
def execTax (s : State) : Result := .next (s.ldx s.a)

/-- TAY, A8 (R169). -/
def execTay (s : State) : Result := .next (s.ldy s.a)

/-- TXA, 8A (R170). -/
def execTxa (s : State) : Result := .next (s.lda s.x)

/-- TYA, 98 (R171). -/
def execTya (s : State) : Result := .next (s.lda s.y)

/-- TSX, BA (R172). -/
def execTsx (s : State) : Result := .next (s.ldx s.sp)

/-- TXS, 9A (R173). -/
def execTxs (s : State) : Result := .next (s.setS s.x)

end Sys2Proof.Machine
end

