-- ==== Sys2Proof/Machine/Arithmetic.lean ====
section
/-! DEFINITION. The meanings of the arithmetic, compare, increment and decrement instructions (R180 to
R194). -/

namespace Sys2Proof.Machine

/-- Writes a sum or difference to A with N, Z, V and C (R180 to R183). -/
def State.takeSum (s : State) (t : Sum) : State :=
  (s.setA t.r).setP { s.p.setNZ t.r with v := t.v, c := t.c }

/-- A decimal ADC or SBC with an operand that is not valid BCD: A, N, V, Z and C are drawn
(`decimal_invalid`, D8, U5; log 8). -/
def State.drawDecimal (s : State) : State :=
  let k := s.draws
  let p : Flags :=
    { s.p with
      n := Config.invalidN k, v := Config.invalidV k, z := Config.invalidZ k, c := Config.invalidC k }
  ((s.setA (Config.invalidA k)).setP p).drew

/-- ADC (R180, R182); V after a decimal sum is drawn (`decimal_V`, D9; log 7). -/
def State.adc (s : State) (m : Byte) : State :=
  if s.p.d then
    if validBcd s.a && validBcd m then
      (s.takeSum (addDecimal s.a m s.p.c (Config.decimalV s.draws))).drew
    else s.drawDecimal
  else s.takeSum (addBinary s.a m s.p.c)

/-- SBC (R181, R183); V after a decimal difference is drawn (`decimal_V`, D9; log 7). -/
def State.sbc (s : State) (m : Byte) : State :=
  if s.p.d then
    if validBcd s.a && validBcd m then
      (s.takeSum (subDecimal s.a m s.p.c (Config.decimalV s.draws))).drew
    else s.drawDecimal
  else s.takeSum (subBinary s.a m s.p.c)

/-- CMP (R184). -/
def State.cmp (s : State) (m : Byte) : State := s.setP (s.p.compare s.a m)

/-- CPX (R185). -/
def State.cpx (s : State) (m : Byte) : State := s.setP (s.p.compare s.x m)

/-- CPY (R186). -/
def State.cpy (s : State) (m : Byte) : State := s.setP (s.p.compare s.y m)

/-- INC (R187): one read, one write of the same address (R73). -/
def State.incMemory (s : State) (ea : Addr) : State :=
  let r := s.read ea + 1
  (s.write ea r).setNZ r

/-- DEC (R188): one read, one write of the same address (R73). -/
def State.decMemory (s : State) (ea : Addr) : State :=
  let r := s.read ea - 1
  (s.write ea r).setNZ r

/-- ADC (zero page,X), 61 (R180). -/
def execAdcIzx (zp : Byte) (s : State) : Result := .next (s.adc (s.read (s.eaIzx zp)))

/-- ADC zero page, 65 (R180). -/
def execAdcZpg (zp : Byte) (s : State) : Result := .next (s.adc (s.read (s.eaZpg zp)))

/-- ADC immediate, 69 (R180). -/
def execAdcImm (imm : Byte) (s : State) : Result := .next (s.adc imm)

/-- ADC absolute, 6D (R180). -/
def execAdcAbs (addr : Addr) (s : State) : Result := .next (s.adc (s.read (s.eaAbs addr)))

/-- ADC (zero page),Y, 71 (R180). -/
def execAdcIzy (zp : Byte) (s : State) : Result := .next (s.adc (s.read (s.eaIzy zp)))

/-- ADC (zero page), 72 (R180). -/
def execAdcIzp (zp : Byte) (s : State) : Result := .next (s.adc (s.read (s.eaIzp zp)))

/-- ADC zero page,X, 75 (R180). -/
def execAdcZpx (zp : Byte) (s : State) : Result := .next (s.adc (s.read (s.eaZpx zp)))

/-- ADC absolute,Y, 79 (R180). -/
def execAdcAby (addr : Addr) (s : State) : Result := .next (s.adc (s.read (s.eaAby addr)))

/-- ADC absolute,X, 7D (R180). -/
def execAdcAbx (addr : Addr) (s : State) : Result := .next (s.adc (s.read (s.eaAbx addr)))

/-- SBC (zero page,X), E1 (R181). -/
def execSbcIzx (zp : Byte) (s : State) : Result := .next (s.sbc (s.read (s.eaIzx zp)))

/-- SBC zero page, E5 (R181). -/
def execSbcZpg (zp : Byte) (s : State) : Result := .next (s.sbc (s.read (s.eaZpg zp)))

/-- SBC immediate, E9 (R181). -/
def execSbcImm (imm : Byte) (s : State) : Result := .next (s.sbc imm)

/-- SBC absolute, ED (R181). -/
def execSbcAbs (addr : Addr) (s : State) : Result := .next (s.sbc (s.read (s.eaAbs addr)))

/-- SBC (zero page),Y, F1 (R181). -/
def execSbcIzy (zp : Byte) (s : State) : Result := .next (s.sbc (s.read (s.eaIzy zp)))

/-- SBC (zero page), F2 (R181). -/
def execSbcIzp (zp : Byte) (s : State) : Result := .next (s.sbc (s.read (s.eaIzp zp)))

/-- SBC zero page,X, F5 (R181). -/
def execSbcZpx (zp : Byte) (s : State) : Result := .next (s.sbc (s.read (s.eaZpx zp)))

/-- SBC absolute,Y, F9 (R181). -/
def execSbcAby (addr : Addr) (s : State) : Result := .next (s.sbc (s.read (s.eaAby addr)))

/-- SBC absolute,X, FD (R181). -/
def execSbcAbx (addr : Addr) (s : State) : Result := .next (s.sbc (s.read (s.eaAbx addr)))

/-- CMP (zero page,X), C1 (R184). -/
def execCmpIzx (zp : Byte) (s : State) : Result := .next (s.cmp (s.read (s.eaIzx zp)))

/-- CMP zero page, C5 (R184). -/
def execCmpZpg (zp : Byte) (s : State) : Result := .next (s.cmp (s.read (s.eaZpg zp)))

/-- CMP immediate, C9 (R184). -/
def execCmpImm (imm : Byte) (s : State) : Result := .next (s.cmp imm)

/-- CMP absolute, CD (R184). -/
def execCmpAbs (addr : Addr) (s : State) : Result := .next (s.cmp (s.read (s.eaAbs addr)))

/-- CMP (zero page),Y, D1 (R184). -/
def execCmpIzy (zp : Byte) (s : State) : Result := .next (s.cmp (s.read (s.eaIzy zp)))

/-- CMP (zero page), D2 (R184). -/
def execCmpIzp (zp : Byte) (s : State) : Result := .next (s.cmp (s.read (s.eaIzp zp)))

/-- CMP zero page,X, D5 (R184). -/
def execCmpZpx (zp : Byte) (s : State) : Result := .next (s.cmp (s.read (s.eaZpx zp)))

/-- CMP absolute,Y, D9 (R184). -/
def execCmpAby (addr : Addr) (s : State) : Result := .next (s.cmp (s.read (s.eaAby addr)))

/-- CMP absolute,X, DD (R184). -/
def execCmpAbx (addr : Addr) (s : State) : Result := .next (s.cmp (s.read (s.eaAbx addr)))

/-- CPX immediate, E0 (R185). -/
def execCpxImm (imm : Byte) (s : State) : Result := .next (s.cpx imm)

/-- CPX zero page, E4 (R185). -/
def execCpxZpg (zp : Byte) (s : State) : Result := .next (s.cpx (s.read (s.eaZpg zp)))

/-- CPX absolute, EC (R185). -/
def execCpxAbs (addr : Addr) (s : State) : Result := .next (s.cpx (s.read (s.eaAbs addr)))

/-- CPY immediate, C0 (R186). -/
def execCpyImm (imm : Byte) (s : State) : Result := .next (s.cpy imm)

/-- CPY zero page, C4 (R186). -/
def execCpyZpg (zp : Byte) (s : State) : Result := .next (s.cpy (s.read (s.eaZpg zp)))

/-- CPY absolute, CC (R186). -/
def execCpyAbs (addr : Addr) (s : State) : Result := .next (s.cpy (s.read (s.eaAbs addr)))

/-- INC zero page, E6 (R187). -/
def execIncZpg (zp : Byte) (s : State) : Result := .next (s.incMemory (s.eaZpg zp))

/-- INC absolute, EE (R187). -/
def execIncAbs (addr : Addr) (s : State) : Result := .next (s.incMemory (s.eaAbs addr))

/-- INC zero page,X, F6 (R187). -/
def execIncZpx (zp : Byte) (s : State) : Result := .next (s.incMemory (s.eaZpx zp))

/-- INC absolute,X, FE (R187). -/
def execIncAbx (addr : Addr) (s : State) : Result := .next (s.incMemory (s.eaAbx addr))

/-- DEC zero page, C6 (R188). -/
def execDecZpg (zp : Byte) (s : State) : Result := .next (s.decMemory (s.eaZpg zp))

/-- DEC absolute, CE (R188). -/
def execDecAbs (addr : Addr) (s : State) : Result := .next (s.decMemory (s.eaAbs addr))

/-- DEC zero page,X, D6 (R188). -/
def execDecZpx (zp : Byte) (s : State) : Result := .next (s.decMemory (s.eaZpx zp))

/-- DEC absolute,X, DE (R188). -/
def execDecAbx (addr : Addr) (s : State) : Result := .next (s.decMemory (s.eaAbx addr))

/-- INA A, 1A (R189). -/
def execIna (s : State) : Result := .next (s.lda (s.a + 1))

/-- DEA A, 3A (R190). -/
def execDea (s : State) : Result := .next (s.lda (s.a - 1))

/-- INX, E8 (R191). -/
def execInx (s : State) : Result := .next (s.ldx (s.x + 1))

/-- INY, C8 (R192). -/
def execIny (s : State) : Result := .next (s.ldy (s.y + 1))

/-- DEX, CA (R193). -/
def execDex (s : State) : Result := .next (s.ldx (s.x - 1))

/-- DEY, 88 (R194). -/
def execDey (s : State) : Result := .next (s.ldy (s.y - 1))

end Sys2Proof.Machine
end

