-- ==== Sys2Proof/Machine/Control.lean ====
section
/-! DEFINITION. The meanings of the branches, jumps and subroutine instructions (R220 to R232). -/

namespace Sys2Proof.Machine

/-- A branch (R220): to the target if the condition holds, else to the next instruction. -/
def State.branchIf (s : State) (cond : Bool) (off : Byte) : State :=
  if cond then s.setPc (s.targetRel off) else s

/-- JSR (R231): pushes the address of its own last byte, then jumps. -/
def State.jumpToSubroutine (s : State) (target : Addr) : State :=
  (s.pushAddr (s.pc - 1)).setPc target

/-- RTS (R232): the pulled address plus one. -/
def State.returnFromSubroutine (s : State) : State :=
  s.pullAddr.2.setPc (s.pullAddr.1 + 1)

/-- BCC, 90 (R221). -/
def execBcc (off : Byte) (s : State) : Result := .next (s.branchIf (!s.p.c) off)

/-- BCS, B0 (R222). -/
def execBcs (off : Byte) (s : State) : Result := .next (s.branchIf s.p.c off)

/-- BEQ, F0 (R223). -/
def execBeq (off : Byte) (s : State) : Result := .next (s.branchIf s.p.z off)

/-- BNE, D0 (R224). -/
def execBne (off : Byte) (s : State) : Result := .next (s.branchIf (!s.p.z) off)

/-- BMI, 30 (R225). -/
def execBmi (off : Byte) (s : State) : Result := .next (s.branchIf s.p.n off)

/-- BPL, 10 (R226). -/
def execBpl (off : Byte) (s : State) : Result := .next (s.branchIf (!s.p.n) off)

/-- BVC, 50 (R227). -/
def execBvc (off : Byte) (s : State) : Result := .next (s.branchIf (!s.p.v) off)

/-- BVS, 70 (R228). -/
def execBvs (off : Byte) (s : State) : Result := .next (s.branchIf s.p.v off)

/-- BRA, 80 (R229). -/
def execBra (off : Byte) (s : State) : Result := .next (s.branchIf true off)

/-- JMP absolute, 4C (R230). -/
def execJmpAbs (addr : Addr) (s : State) : Result := .next (s.setPc (s.eaAbs addr))

/-- JMP (absolute), 6C (R230). -/
def execJmpInd (addr : Addr) (s : State) : Result := .next (s.setPc (s.eaInd addr))

/-- JMP (absolute,X), 7C (R230). -/
def execJmpIax (addr : Addr) (s : State) : Result := .next (s.setPc (s.eaIax addr))

/-- JSR absolute, 20 (R231). -/
def execJsr (addr : Addr) (s : State) : Result := .next (s.jumpToSubroutine (s.eaAbs addr))

/-- RTS, 60 (R232). -/
def execRts (s : State) : Result := .next s.returnFromSubroutine

end Sys2Proof.Machine
end

