-- ==== Sys2Proof/Machine/Logic.lean ====
section
/-! DEFINITION. The meanings of the logical, bit-test and shift instructions (R200 to R210). -/

namespace Sys2Proof.Machine

/-- AND (R200). -/
def State.andA (s : State) (m : Byte) : State := s.lda (s.a &&& m)

/-- ORA (R201). -/
def State.oraA (s : State) (m : Byte) : State := s.lda (s.a ||| m)

/-- EOR (R202). -/
def State.eorA (s : State) (m : Byte) : State := s.lda (s.a ^^^ m)

/-- BIT on a memory operand (R203). -/
def State.bitMemory (s : State) (m : Byte) : State := s.setP (s.p.testMemory s.a m)

/-- BIT immediate (R203): Z alone. -/
def State.bitImmediate (s : State) (m : Byte) : State := s.setP (s.p.testBits s.a m)

/-- TSB (R204): the test is on the old memory byte. -/
def State.tsb (s : State) (ea : Addr) : State :=
  let m := s.read ea
  (s.write ea (m ||| s.a)).setP (s.p.testBits s.a m)

/-- TRB (R205): the test is on the old memory byte. -/
def State.trb (s : State) (ea : Addr) : State :=
  let m := s.read ea
  (s.write ea (m &&& ~~~s.a)).setP (s.p.testBits s.a m)

/-- A shift or rotate of A (R206). -/
def State.shiftA (s : State) (f : Shift) : State :=
  let (r, c) := f s.a s.p.c
  (s.setA r).setP { s.p.setNZ r with c := c }

/-- A shift or rotate of a memory byte: one read, one write of the same address (R206, R73). -/
def State.shiftMemory (s : State) (f : Shift) (ea : Addr) : State :=
  let (r, c) := f (s.read ea) s.p.c
  (s.write ea r).setP { s.p.setNZ r with c := c }

/-- AND (zero page,X), 21 (R200). -/
def execAndIzx (zp : Byte) (s : State) : Result := .next (s.andA (s.read (s.eaIzx zp)))

/-- AND zero page, 25 (R200). -/
def execAndZpg (zp : Byte) (s : State) : Result := .next (s.andA (s.read (s.eaZpg zp)))

/-- AND immediate, 29 (R200). -/
def execAndImm (imm : Byte) (s : State) : Result := .next (s.andA imm)

/-- AND absolute, 2D (R200). -/
def execAndAbs (addr : Addr) (s : State) : Result := .next (s.andA (s.read (s.eaAbs addr)))

/-- AND (zero page),Y, 31 (R200). -/
def execAndIzy (zp : Byte) (s : State) : Result := .next (s.andA (s.read (s.eaIzy zp)))

/-- AND (zero page), 32 (R200). -/
def execAndIzp (zp : Byte) (s : State) : Result := .next (s.andA (s.read (s.eaIzp zp)))

/-- AND zero page,X, 35 (R200). -/
def execAndZpx (zp : Byte) (s : State) : Result := .next (s.andA (s.read (s.eaZpx zp)))

/-- AND absolute,Y, 39 (R200). -/
def execAndAby (addr : Addr) (s : State) : Result := .next (s.andA (s.read (s.eaAby addr)))

/-- AND absolute,X, 3D (R200). -/
def execAndAbx (addr : Addr) (s : State) : Result := .next (s.andA (s.read (s.eaAbx addr)))

/-- ORA (zero page,X), 01 (R201). -/
def execOraIzx (zp : Byte) (s : State) : Result := .next (s.oraA (s.read (s.eaIzx zp)))

/-- ORA zero page, 05 (R201). -/
def execOraZpg (zp : Byte) (s : State) : Result := .next (s.oraA (s.read (s.eaZpg zp)))

/-- ORA immediate, 09 (R201). -/
def execOraImm (imm : Byte) (s : State) : Result := .next (s.oraA imm)

/-- ORA absolute, 0D (R201). -/
def execOraAbs (addr : Addr) (s : State) : Result := .next (s.oraA (s.read (s.eaAbs addr)))

/-- ORA (zero page),Y, 11 (R201). -/
def execOraIzy (zp : Byte) (s : State) : Result := .next (s.oraA (s.read (s.eaIzy zp)))

/-- ORA (zero page), 12 (R201). -/
def execOraIzp (zp : Byte) (s : State) : Result := .next (s.oraA (s.read (s.eaIzp zp)))

/-- ORA zero page,X, 15 (R201). -/
def execOraZpx (zp : Byte) (s : State) : Result := .next (s.oraA (s.read (s.eaZpx zp)))

/-- ORA absolute,Y, 19 (R201). -/
def execOraAby (addr : Addr) (s : State) : Result := .next (s.oraA (s.read (s.eaAby addr)))

/-- ORA absolute,X, 1D (R201). -/
def execOraAbx (addr : Addr) (s : State) : Result := .next (s.oraA (s.read (s.eaAbx addr)))

/-- EOR (zero page,X), 41 (R202). -/
def execEorIzx (zp : Byte) (s : State) : Result := .next (s.eorA (s.read (s.eaIzx zp)))

/-- EOR zero page, 45 (R202). -/
def execEorZpg (zp : Byte) (s : State) : Result := .next (s.eorA (s.read (s.eaZpg zp)))

/-- EOR immediate, 49 (R202). -/
def execEorImm (imm : Byte) (s : State) : Result := .next (s.eorA imm)

/-- EOR absolute, 4D (R202). -/
def execEorAbs (addr : Addr) (s : State) : Result := .next (s.eorA (s.read (s.eaAbs addr)))

/-- EOR (zero page),Y, 51 (R202). -/
def execEorIzy (zp : Byte) (s : State) : Result := .next (s.eorA (s.read (s.eaIzy zp)))

/-- EOR (zero page), 52 (R202). -/
def execEorIzp (zp : Byte) (s : State) : Result := .next (s.eorA (s.read (s.eaIzp zp)))

/-- EOR zero page,X, 55 (R202). -/
def execEorZpx (zp : Byte) (s : State) : Result := .next (s.eorA (s.read (s.eaZpx zp)))

/-- EOR absolute,Y, 59 (R202). -/
def execEorAby (addr : Addr) (s : State) : Result := .next (s.eorA (s.read (s.eaAby addr)))

/-- EOR absolute,X, 5D (R202). -/
def execEorAbx (addr : Addr) (s : State) : Result := .next (s.eorA (s.read (s.eaAbx addr)))

/-- BIT zero page, 24 (R203). -/
def execBitZpg (zp : Byte) (s : State) : Result := .next (s.bitMemory (s.read (s.eaZpg zp)))

/-- BIT absolute, 2C (R203). -/
def execBitAbs (addr : Addr) (s : State) : Result := .next (s.bitMemory (s.read (s.eaAbs addr)))

/-- BIT zero page,X, 34 (R203). -/
def execBitZpx (zp : Byte) (s : State) : Result := .next (s.bitMemory (s.read (s.eaZpx zp)))

/-- BIT absolute,X, 3C (R203). -/
def execBitAbx (addr : Addr) (s : State) : Result := .next (s.bitMemory (s.read (s.eaAbx addr)))

/-- BIT immediate, 89 (R203). -/
def execBitImm (imm : Byte) (s : State) : Result := .next (s.bitImmediate imm)

/-- TSB zero page, 04 (R204). -/
def execTsbZpg (zp : Byte) (s : State) : Result := .next (s.tsb (s.eaZpg zp))

/-- TSB absolute, 0C (R204). -/
def execTsbAbs (addr : Addr) (s : State) : Result := .next (s.tsb (s.eaAbs addr))

/-- TRB zero page, 14 (R205). -/
def execTrbZpg (zp : Byte) (s : State) : Result := .next (s.trb (s.eaZpg zp))

/-- TRB absolute, 1C (R205). -/
def execTrbAbs (addr : Addr) (s : State) : Result := .next (s.trb (s.eaAbs addr))

/-- ASL zero page, 06 (R207). -/
def execAslZpg (zp : Byte) (s : State) : Result := .next (s.shiftMemory shiftAsl (s.eaZpg zp))

/-- ASL A, 0A (R207). -/
def execAslAcc (s : State) : Result := .next (s.shiftA shiftAsl)

/-- ASL absolute, 0E (R207). -/
def execAslAbs (addr : Addr) (s : State) : Result := .next (s.shiftMemory shiftAsl (s.eaAbs addr))

/-- ASL zero page,X, 16 (R207). -/
def execAslZpx (zp : Byte) (s : State) : Result := .next (s.shiftMemory shiftAsl (s.eaZpx zp))

/-- ASL absolute,X, 1E (R207). -/
def execAslAbx (addr : Addr) (s : State) : Result := .next (s.shiftMemory shiftAsl (s.eaAbx addr))

/-- LSR zero page, 46 (R208). -/
def execLsrZpg (zp : Byte) (s : State) : Result := .next (s.shiftMemory shiftLsr (s.eaZpg zp))

/-- LSR A, 4A (R208). -/
def execLsrAcc (s : State) : Result := .next (s.shiftA shiftLsr)

/-- LSR absolute, 4E (R208). -/
def execLsrAbs (addr : Addr) (s : State) : Result := .next (s.shiftMemory shiftLsr (s.eaAbs addr))

/-- LSR zero page,X, 56 (R208). -/
def execLsrZpx (zp : Byte) (s : State) : Result := .next (s.shiftMemory shiftLsr (s.eaZpx zp))

/-- LSR absolute,X, 5E (R208). -/
def execLsrAbx (addr : Addr) (s : State) : Result := .next (s.shiftMemory shiftLsr (s.eaAbx addr))

/-- ROL zero page, 26 (R209). -/
def execRolZpg (zp : Byte) (s : State) : Result := .next (s.shiftMemory shiftRol (s.eaZpg zp))

/-- ROL A, 2A (R209). -/
def execRolAcc (s : State) : Result := .next (s.shiftA shiftRol)

/-- ROL absolute, 2E (R209). -/
def execRolAbs (addr : Addr) (s : State) : Result := .next (s.shiftMemory shiftRol (s.eaAbs addr))

/-- ROL zero page,X, 36 (R209). -/
def execRolZpx (zp : Byte) (s : State) : Result := .next (s.shiftMemory shiftRol (s.eaZpx zp))

/-- ROL absolute,X, 3E (R209). -/
def execRolAbx (addr : Addr) (s : State) : Result := .next (s.shiftMemory shiftRol (s.eaAbx addr))

/-- ROR zero page, 66 (R210). -/
def execRorZpg (zp : Byte) (s : State) : Result := .next (s.shiftMemory shiftRor (s.eaZpg zp))

/-- ROR A, 6A (R210). -/
def execRorAcc (s : State) : Result := .next (s.shiftA shiftRor)

/-- ROR absolute, 6E (R210). -/
def execRorAbs (addr : Addr) (s : State) : Result := .next (s.shiftMemory shiftRor (s.eaAbs addr))

/-- ROR zero page,X, 76 (R210). -/
def execRorZpx (zp : Byte) (s : State) : Result := .next (s.shiftMemory shiftRor (s.eaZpx zp))

/-- ROR absolute,X, 7E (R210). -/
def execRorAbx (addr : Addr) (s : State) : Result := .next (s.shiftMemory shiftRor (s.eaAbx addr))

end Sys2Proof.Machine
end

