-- ==== Sys2Proof/Machine/Reserved.lean ====
section
/-! DEFINITION. The meanings of the 78 reserved op codes: NOPs of one, two or three bytes (R112, R258 to R260). The
step has already moved `pc` past the instruction (R15); nothing else changes, and no data address is read (D21). -/

namespace Sys2Proof.Machine

/-- 02, a reserved op code of 2 bytes (R259): a NOP. -/
def execRsv02 (s : State) : Result := .next s

/-- 03, a reserved op code of 1 byte (R258): a NOP. -/
def execRsv03 (s : State) : Result := .next s

/-- 07, a reserved op code of 1 byte (R258): a NOP. -/
def execRsv07 (s : State) : Result := .next s

/-- 0B, a reserved op code of 1 byte (R258): a NOP. -/
def execRsv0b (s : State) : Result := .next s

/-- 0F, a reserved op code of 1 byte (R258): a NOP. -/
def execRsv0f (s : State) : Result := .next s

/-- 13, a reserved op code of 1 byte (R258): a NOP. -/
def execRsv13 (s : State) : Result := .next s

/-- 17, a reserved op code of 1 byte (R258): a NOP. -/
def execRsv17 (s : State) : Result := .next s

/-- 1B, a reserved op code of 1 byte (R258): a NOP. -/
def execRsv1b (s : State) : Result := .next s

/-- 1F, a reserved op code of 1 byte (R258): a NOP. -/
def execRsv1f (s : State) : Result := .next s

/-- 22, a reserved op code of 2 bytes (R259): a NOP. -/
def execRsv22 (s : State) : Result := .next s

/-- 23, a reserved op code of 1 byte (R258): a NOP. -/
def execRsv23 (s : State) : Result := .next s

/-- 27, a reserved op code of 1 byte (R258): a NOP. -/
def execRsv27 (s : State) : Result := .next s

/-- 2B, a reserved op code of 1 byte (R258): a NOP. -/
def execRsv2b (s : State) : Result := .next s

/-- 2F, a reserved op code of 1 byte (R258): a NOP. -/
def execRsv2f (s : State) : Result := .next s

/-- 33, a reserved op code of 1 byte (R258): a NOP. -/
def execRsv33 (s : State) : Result := .next s

/-- 37, a reserved op code of 1 byte (R258): a NOP. -/
def execRsv37 (s : State) : Result := .next s

/-- 3B, a reserved op code of 1 byte (R258): a NOP. -/
def execRsv3b (s : State) : Result := .next s

/-- 3F, a reserved op code of 1 byte (R258): a NOP. -/
def execRsv3f (s : State) : Result := .next s

/-- 42, a reserved op code of 2 bytes (R259): a NOP. -/
def execRsv42 (s : State) : Result := .next s

/-- 43, a reserved op code of 1 byte (R258): a NOP. -/
def execRsv43 (s : State) : Result := .next s

/-- 44, a reserved op code of 2 bytes (R259): a NOP. -/
def execRsv44 (s : State) : Result := .next s

/-- 47, a reserved op code of 1 byte (R258): a NOP. -/
def execRsv47 (s : State) : Result := .next s

/-- 4B, a reserved op code of 1 byte (R258): a NOP. -/
def execRsv4b (s : State) : Result := .next s

/-- 4F, a reserved op code of 1 byte (R258): a NOP. -/
def execRsv4f (s : State) : Result := .next s

/-- 53, a reserved op code of 1 byte (R258): a NOP. -/
def execRsv53 (s : State) : Result := .next s

/-- 54, a reserved op code of 2 bytes (R259): a NOP. -/
def execRsv54 (s : State) : Result := .next s

/-- 57, a reserved op code of 1 byte (R258): a NOP. -/
def execRsv57 (s : State) : Result := .next s

/-- 5B, a reserved op code of 1 byte (R258): a NOP. -/
def execRsv5b (s : State) : Result := .next s

/-- 5C, a reserved op code of 3 bytes (R260): a NOP. -/
def execRsv5c (s : State) : Result := .next s

/-- 5F, a reserved op code of 1 byte (R258): a NOP. -/
def execRsv5f (s : State) : Result := .next s

/-- 62, a reserved op code of 2 bytes (R259): a NOP. -/
def execRsv62 (s : State) : Result := .next s

/-- 63, a reserved op code of 1 byte (R258): a NOP. -/
def execRsv63 (s : State) : Result := .next s

/-- 67, a reserved op code of 1 byte (R258): a NOP. -/
def execRsv67 (s : State) : Result := .next s

/-- 6B, a reserved op code of 1 byte (R258): a NOP. -/
def execRsv6b (s : State) : Result := .next s

/-- 6F, a reserved op code of 1 byte (R258): a NOP. -/
def execRsv6f (s : State) : Result := .next s

/-- 73, a reserved op code of 1 byte (R258): a NOP. -/
def execRsv73 (s : State) : Result := .next s

/-- 77, a reserved op code of 1 byte (R258): a NOP. -/
def execRsv77 (s : State) : Result := .next s

/-- 7B, a reserved op code of 1 byte (R258): a NOP. -/
def execRsv7b (s : State) : Result := .next s

/-- 7F, a reserved op code of 1 byte (R258): a NOP. -/
def execRsv7f (s : State) : Result := .next s

/-- 82, a reserved op code of 2 bytes (R259): a NOP. -/
def execRsv82 (s : State) : Result := .next s

/-- 83, a reserved op code of 1 byte (R258): a NOP. -/
def execRsv83 (s : State) : Result := .next s

/-- 87, a reserved op code of 1 byte (R258): a NOP. -/
def execRsv87 (s : State) : Result := .next s

/-- 8B, a reserved op code of 1 byte (R258): a NOP. -/
def execRsv8b (s : State) : Result := .next s

/-- 8F, a reserved op code of 1 byte (R258): a NOP. -/
def execRsv8f (s : State) : Result := .next s

/-- 93, a reserved op code of 1 byte (R258): a NOP. -/
def execRsv93 (s : State) : Result := .next s

/-- 97, a reserved op code of 1 byte (R258): a NOP. -/
def execRsv97 (s : State) : Result := .next s

/-- 9B, a reserved op code of 1 byte (R258): a NOP. -/
def execRsv9b (s : State) : Result := .next s

/-- 9F, a reserved op code of 1 byte (R258): a NOP. -/
def execRsv9f (s : State) : Result := .next s

/-- A3, a reserved op code of 1 byte (R258): a NOP. -/
def execRsva3 (s : State) : Result := .next s

/-- A7, a reserved op code of 1 byte (R258): a NOP. -/
def execRsva7 (s : State) : Result := .next s

/-- AB, a reserved op code of 1 byte (R258): a NOP. -/
def execRsvab (s : State) : Result := .next s

/-- AF, a reserved op code of 1 byte (R258): a NOP. -/
def execRsvaf (s : State) : Result := .next s

/-- B3, a reserved op code of 1 byte (R258): a NOP. -/
def execRsvb3 (s : State) : Result := .next s

/-- B7, a reserved op code of 1 byte (R258): a NOP. -/
def execRsvb7 (s : State) : Result := .next s

/-- BB, a reserved op code of 1 byte (R258): a NOP. -/
def execRsvbb (s : State) : Result := .next s

/-- BF, a reserved op code of 1 byte (R258): a NOP. -/
def execRsvbf (s : State) : Result := .next s

/-- C2, a reserved op code of 2 bytes (R259): a NOP. -/
def execRsvc2 (s : State) : Result := .next s

/-- C3, a reserved op code of 1 byte (R258): a NOP. -/
def execRsvc3 (s : State) : Result := .next s

/-- C7, a reserved op code of 1 byte (R258): a NOP. -/
def execRsvc7 (s : State) : Result := .next s

/-- CB, a reserved op code of 1 byte (R258): a NOP. -/
def execRsvcb (s : State) : Result := .next s

/-- CF, a reserved op code of 1 byte (R258): a NOP. -/
def execRsvcf (s : State) : Result := .next s

/-- D3, a reserved op code of 1 byte (R258): a NOP. -/
def execRsvd3 (s : State) : Result := .next s

/-- D4, a reserved op code of 2 bytes (R259): a NOP. -/
def execRsvd4 (s : State) : Result := .next s

/-- D7, a reserved op code of 1 byte (R258): a NOP. -/
def execRsvd7 (s : State) : Result := .next s

/-- DB, a reserved op code of 1 byte (R258): a NOP. -/
def execRsvdb (s : State) : Result := .next s

/-- DC, a reserved op code of 3 bytes (R260): a NOP. -/
def execRsvdc (s : State) : Result := .next s

/-- DF, a reserved op code of 1 byte (R258): a NOP. -/
def execRsvdf (s : State) : Result := .next s

/-- E2, a reserved op code of 2 bytes (R259): a NOP. -/
def execRsve2 (s : State) : Result := .next s

/-- E3, a reserved op code of 1 byte (R258): a NOP. -/
def execRsve3 (s : State) : Result := .next s

/-- E7, a reserved op code of 1 byte (R258): a NOP. -/
def execRsve7 (s : State) : Result := .next s

/-- EB, a reserved op code of 1 byte (R258): a NOP. -/
def execRsveb (s : State) : Result := .next s

/-- EF, a reserved op code of 1 byte (R258): a NOP. -/
def execRsvef (s : State) : Result := .next s

/-- F3, a reserved op code of 1 byte (R258): a NOP. -/
def execRsvf3 (s : State) : Result := .next s

/-- F4, a reserved op code of 2 bytes (R259): a NOP. -/
def execRsvf4 (s : State) : Result := .next s

/-- F7, a reserved op code of 1 byte (R258): a NOP. -/
def execRsvf7 (s : State) : Result := .next s

/-- FB, a reserved op code of 1 byte (R258): a NOP. -/
def execRsvfb (s : State) : Result := .next s

/-- FC, a reserved op code of 3 bytes (R260): a NOP. -/
def execRsvfc (s : State) : Result := .next s

/-- FF, a reserved op code of 1 byte (R258): a NOP. -/
def execRsvff (s : State) : Result := .next s

end Sys2Proof.Machine
end

