-- ==== Sys2Proof/Machine/System.lean ====
section
/-! DEFINITION. The meanings of the stack, flag, NOP and system instructions (R240 to R257). -/

namespace Sys2Proof.Machine

/-- PHA, 48 (R240). -/
def execPha (s : State) : Result := .next (s.push s.a)

/-- PHP, 08 (R241). -/
def execPhp (s : State) : Result := .next (s.push (s.p.image true))

/-- PHX, DA (R242). -/
def execPhx (s : State) : Result := .next (s.push s.x)

/-- PHY, 5A (R243). -/
def execPhy (s : State) : Result := .next (s.push s.y)

/-- PLA, 68 (R244). -/
def execPla (s : State) : Result := .next (s.pull.2.lda s.pull.1)

/-- PLP, 28 (R245). -/
def execPlp (s : State) : Result := .next (s.pull.2.setP (Flags.load s.pull.1))

/-- PLX, FA (R246). -/
def execPlx (s : State) : Result := .next (s.pull.2.ldx s.pull.1)

/-- PLY, 7A (R247). -/
def execPly (s : State) : Result := .next (s.pull.2.ldy s.pull.1)

/-- CLC, 18 (R248). -/
def execClc (s : State) : Result := .next (s.setP { s.p with c := false })

/-- CLD, D8 (R249). -/
def execCld (s : State) : Result := .next (s.setP { s.p with d := false })

/-- CLI, 58 (R250). -/
def execCli (s : State) : Result := .next (s.setP { s.p with i := false })

/-- CLV, B8 (R251). -/
def execClv (s : State) : Result := .next (s.setP { s.p with v := false })

/-- SEC, 38 (R252). -/
def execSec (s : State) : Result := .next (s.setP { s.p with c := true })

/-- SED, F8 (R253). -/
def execSed (s : State) : Result := .next (s.setP { s.p with d := true })

/-- SEI, 78 (R254). -/
def execSei (s : State) : Result := .next (s.setP { s.p with i := true })

/-- NOP, EA (R255). -/
def execNop (s : State) : Result := .next s

/-- BRK, 00 (R256). -/
def execBrk (s : State) : Result := .next s.breakSequence

/-- RTI, 40 (R257). -/
def execRti (s : State) : Result := .next s.returnFromInterrupt

end Sys2Proof.Machine
end

