-- ==== Sys2Proof/Machine/Dispatch.lean ====
section
/-! DEFINITION. The meaning of each instruction, starting with `pc` already at the next instruction (R15). -/

namespace Sys2Proof.Machine

def exec (i : Instr) (s : State) : Host.Outcome State Fault Refusal :=
  match i with
  | .oraIzx zp => Sys2Proof.Machine.execOraIzx zp s
  | .rsv02 _ => Sys2Proof.Machine.execRsv02 s
  | .tsbZpg zp => Sys2Proof.Machine.execTsbZpg zp s
  | .oraZpg zp => Sys2Proof.Machine.execOraZpg zp s
  | .aslZpg zp => Sys2Proof.Machine.execAslZpg zp s
  | .oraImm imm => Sys2Proof.Machine.execOraImm imm s
  | .tsbAbs addr => Sys2Proof.Machine.execTsbAbs addr s
  | .oraAbs addr => Sys2Proof.Machine.execOraAbs addr s
  | .aslAbs addr => Sys2Proof.Machine.execAslAbs addr s
  | .bpl off => Sys2Proof.Machine.execBpl off s
  | .oraIzy zp => Sys2Proof.Machine.execOraIzy zp s
  | .oraIzp zp => Sys2Proof.Machine.execOraIzp zp s
  | .trbZpg zp => Sys2Proof.Machine.execTrbZpg zp s
  | .oraZpx zp => Sys2Proof.Machine.execOraZpx zp s
  | .aslZpx zp => Sys2Proof.Machine.execAslZpx zp s
  | .oraAby addr => Sys2Proof.Machine.execOraAby addr s
  | .trbAbs addr => Sys2Proof.Machine.execTrbAbs addr s
  | .oraAbx addr => Sys2Proof.Machine.execOraAbx addr s
  | .aslAbx addr => Sys2Proof.Machine.execAslAbx addr s
  | .jsr addr => Sys2Proof.Machine.execJsr addr s
  | .andIzx zp => Sys2Proof.Machine.execAndIzx zp s
  | .rsv22 _ => Sys2Proof.Machine.execRsv22 s
  | .bitZpg zp => Sys2Proof.Machine.execBitZpg zp s
  | .andZpg zp => Sys2Proof.Machine.execAndZpg zp s
  | .rolZpg zp => Sys2Proof.Machine.execRolZpg zp s
  | .andImm imm => Sys2Proof.Machine.execAndImm imm s
  | .bitAbs addr => Sys2Proof.Machine.execBitAbs addr s
  | .andAbs addr => Sys2Proof.Machine.execAndAbs addr s
  | .rolAbs addr => Sys2Proof.Machine.execRolAbs addr s
  | .bmi off => Sys2Proof.Machine.execBmi off s
  | .andIzy zp => Sys2Proof.Machine.execAndIzy zp s
  | .andIzp zp => Sys2Proof.Machine.execAndIzp zp s
  | .bitZpx zp => Sys2Proof.Machine.execBitZpx zp s
  | .andZpx zp => Sys2Proof.Machine.execAndZpx zp s
  | .rolZpx zp => Sys2Proof.Machine.execRolZpx zp s
  | .andAby addr => Sys2Proof.Machine.execAndAby addr s
  | .bitAbx addr => Sys2Proof.Machine.execBitAbx addr s
  | .andAbx addr => Sys2Proof.Machine.execAndAbx addr s
  | .rolAbx addr => Sys2Proof.Machine.execRolAbx addr s
  | .eorIzx zp => Sys2Proof.Machine.execEorIzx zp s
  | .rsv42 _ => Sys2Proof.Machine.execRsv42 s
  | .rsv44 _ => Sys2Proof.Machine.execRsv44 s
  | .eorZpg zp => Sys2Proof.Machine.execEorZpg zp s
  | .lsrZpg zp => Sys2Proof.Machine.execLsrZpg zp s
  | .eorImm imm => Sys2Proof.Machine.execEorImm imm s
  | .jmpAbs addr => Sys2Proof.Machine.execJmpAbs addr s
  | .eorAbs addr => Sys2Proof.Machine.execEorAbs addr s
  | .lsrAbs addr => Sys2Proof.Machine.execLsrAbs addr s
  | .bvc off => Sys2Proof.Machine.execBvc off s
  | .eorIzy zp => Sys2Proof.Machine.execEorIzy zp s
  | .eorIzp zp => Sys2Proof.Machine.execEorIzp zp s
  | .rsv54 _ => Sys2Proof.Machine.execRsv54 s
  | .eorZpx zp => Sys2Proof.Machine.execEorZpx zp s
  | .lsrZpx zp => Sys2Proof.Machine.execLsrZpx zp s
  | .eorAby addr => Sys2Proof.Machine.execEorAby addr s
  | .rsv5c _ => Sys2Proof.Machine.execRsv5c s
  | .eorAbx addr => Sys2Proof.Machine.execEorAbx addr s
  | .lsrAbx addr => Sys2Proof.Machine.execLsrAbx addr s
  | .adcIzx zp => Sys2Proof.Machine.execAdcIzx zp s
  | .rsv62 _ => Sys2Proof.Machine.execRsv62 s
  | .stzZpg zp => Sys2Proof.Machine.execStzZpg zp s
  | .adcZpg zp => Sys2Proof.Machine.execAdcZpg zp s
  | .rorZpg zp => Sys2Proof.Machine.execRorZpg zp s
  | .adcImm imm => Sys2Proof.Machine.execAdcImm imm s
  | .jmpInd addr => Sys2Proof.Machine.execJmpInd addr s
  | .adcAbs addr => Sys2Proof.Machine.execAdcAbs addr s
  | .rorAbs addr => Sys2Proof.Machine.execRorAbs addr s
  | .bvs off => Sys2Proof.Machine.execBvs off s
  | .adcIzy zp => Sys2Proof.Machine.execAdcIzy zp s
  | .adcIzp zp => Sys2Proof.Machine.execAdcIzp zp s
  | .stzZpx zp => Sys2Proof.Machine.execStzZpx zp s
  | .adcZpx zp => Sys2Proof.Machine.execAdcZpx zp s
  | .rorZpx zp => Sys2Proof.Machine.execRorZpx zp s
  | .adcAby addr => Sys2Proof.Machine.execAdcAby addr s
  | .jmpIax addr => Sys2Proof.Machine.execJmpIax addr s
  | .adcAbx addr => Sys2Proof.Machine.execAdcAbx addr s
  | .rorAbx addr => Sys2Proof.Machine.execRorAbx addr s
  | .bra off => Sys2Proof.Machine.execBra off s
  | .staIzx zp => Sys2Proof.Machine.execStaIzx zp s
  | .rsv82 _ => Sys2Proof.Machine.execRsv82 s
  | .styZpg zp => Sys2Proof.Machine.execStyZpg zp s
  | .staZpg zp => Sys2Proof.Machine.execStaZpg zp s
  | .stxZpg zp => Sys2Proof.Machine.execStxZpg zp s
  | .bitImm imm => Sys2Proof.Machine.execBitImm imm s
  | .styAbs addr => Sys2Proof.Machine.execStyAbs addr s
  | .staAbs addr => Sys2Proof.Machine.execStaAbs addr s
  | .stxAbs addr => Sys2Proof.Machine.execStxAbs addr s
  | .bcc off => Sys2Proof.Machine.execBcc off s
  | .staIzy zp => Sys2Proof.Machine.execStaIzy zp s
  | .staIzp zp => Sys2Proof.Machine.execStaIzp zp s
  | .styZpx zp => Sys2Proof.Machine.execStyZpx zp s
  | .staZpx zp => Sys2Proof.Machine.execStaZpx zp s
  | .stxZpy zp => Sys2Proof.Machine.execStxZpy zp s
  | .staAby addr => Sys2Proof.Machine.execStaAby addr s
  | .stzAbs addr => Sys2Proof.Machine.execStzAbs addr s
  | .staAbx addr => Sys2Proof.Machine.execStaAbx addr s
  | .stzAbx addr => Sys2Proof.Machine.execStzAbx addr s
  | .ldyImm imm => Sys2Proof.Machine.execLdyImm imm s
  | .ldaIzx zp => Sys2Proof.Machine.execLdaIzx zp s
  | .ldxImm imm => Sys2Proof.Machine.execLdxImm imm s
  | .ldyZpg zp => Sys2Proof.Machine.execLdyZpg zp s
  | .ldaZpg zp => Sys2Proof.Machine.execLdaZpg zp s
  | .ldxZpg zp => Sys2Proof.Machine.execLdxZpg zp s
  | .ldaImm imm => Sys2Proof.Machine.execLdaImm imm s
  | .ldyAbs addr => Sys2Proof.Machine.execLdyAbs addr s
  | .ldaAbs addr => Sys2Proof.Machine.execLdaAbs addr s
  | .ldxAbs addr => Sys2Proof.Machine.execLdxAbs addr s
  | .bcs off => Sys2Proof.Machine.execBcs off s
  | .ldaIzy zp => Sys2Proof.Machine.execLdaIzy zp s
  | .ldaIzp zp => Sys2Proof.Machine.execLdaIzp zp s
  | .ldyZpx zp => Sys2Proof.Machine.execLdyZpx zp s
  | .ldaZpx zp => Sys2Proof.Machine.execLdaZpx zp s
  | .ldxZpy zp => Sys2Proof.Machine.execLdxZpy zp s
  | .ldaAby addr => Sys2Proof.Machine.execLdaAby addr s
  | .ldyAbx addr => Sys2Proof.Machine.execLdyAbx addr s
  | .ldaAbx addr => Sys2Proof.Machine.execLdaAbx addr s
  | .ldxAby addr => Sys2Proof.Machine.execLdxAby addr s
  | .cpyImm imm => Sys2Proof.Machine.execCpyImm imm s
  | .cmpIzx zp => Sys2Proof.Machine.execCmpIzx zp s
  | .rsvc2 _ => Sys2Proof.Machine.execRsvc2 s
  | .cpyZpg zp => Sys2Proof.Machine.execCpyZpg zp s
  | .cmpZpg zp => Sys2Proof.Machine.execCmpZpg zp s
  | .decZpg zp => Sys2Proof.Machine.execDecZpg zp s
  | .cmpImm imm => Sys2Proof.Machine.execCmpImm imm s
  | .cpyAbs addr => Sys2Proof.Machine.execCpyAbs addr s
  | .cmpAbs addr => Sys2Proof.Machine.execCmpAbs addr s
  | .decAbs addr => Sys2Proof.Machine.execDecAbs addr s
  | .bne off => Sys2Proof.Machine.execBne off s
  | .cmpIzy zp => Sys2Proof.Machine.execCmpIzy zp s
  | .cmpIzp zp => Sys2Proof.Machine.execCmpIzp zp s
  | .rsvd4 _ => Sys2Proof.Machine.execRsvd4 s
  | .cmpZpx zp => Sys2Proof.Machine.execCmpZpx zp s
  | .decZpx zp => Sys2Proof.Machine.execDecZpx zp s
  | .cmpAby addr => Sys2Proof.Machine.execCmpAby addr s
  | .rsvdc _ => Sys2Proof.Machine.execRsvdc s
  | .cmpAbx addr => Sys2Proof.Machine.execCmpAbx addr s
  | .decAbx addr => Sys2Proof.Machine.execDecAbx addr s
  | .cpxImm imm => Sys2Proof.Machine.execCpxImm imm s
  | .sbcIzx zp => Sys2Proof.Machine.execSbcIzx zp s
  | .rsve2 _ => Sys2Proof.Machine.execRsve2 s
  | .cpxZpg zp => Sys2Proof.Machine.execCpxZpg zp s
  | .sbcZpg zp => Sys2Proof.Machine.execSbcZpg zp s
  | .incZpg zp => Sys2Proof.Machine.execIncZpg zp s
  | .sbcImm imm => Sys2Proof.Machine.execSbcImm imm s
  | .cpxAbs addr => Sys2Proof.Machine.execCpxAbs addr s
  | .sbcAbs addr => Sys2Proof.Machine.execSbcAbs addr s
  | .incAbs addr => Sys2Proof.Machine.execIncAbs addr s
  | .beq off => Sys2Proof.Machine.execBeq off s
  | .sbcIzy zp => Sys2Proof.Machine.execSbcIzy zp s
  | .sbcIzp zp => Sys2Proof.Machine.execSbcIzp zp s
  | .rsvf4 _ => Sys2Proof.Machine.execRsvf4 s
  | .sbcZpx zp => Sys2Proof.Machine.execSbcZpx zp s
  | .incZpx zp => Sys2Proof.Machine.execIncZpx zp s
  | .sbcAby addr => Sys2Proof.Machine.execSbcAby addr s
  | .rsvfc _ => Sys2Proof.Machine.execRsvfc s
  | .sbcAbx addr => Sys2Proof.Machine.execSbcAbx addr s
  | .incAbx addr => Sys2Proof.Machine.execIncAbx addr s
  | .brk => Sys2Proof.Machine.execBrk s
  | .rsv03 => Sys2Proof.Machine.execRsv03 s
  | .rsv07 => Sys2Proof.Machine.execRsv07 s
  | .php => Sys2Proof.Machine.execPhp s
  | .aslAcc => Sys2Proof.Machine.execAslAcc s
  | .rsv0b => Sys2Proof.Machine.execRsv0b s
  | .rsv0f => Sys2Proof.Machine.execRsv0f s
  | .rsv13 => Sys2Proof.Machine.execRsv13 s
  | .rsv17 => Sys2Proof.Machine.execRsv17 s
  | .clc => Sys2Proof.Machine.execClc s
  | .ina => Sys2Proof.Machine.execIna s
  | .rsv1b => Sys2Proof.Machine.execRsv1b s
  | .rsv1f => Sys2Proof.Machine.execRsv1f s
  | .rsv23 => Sys2Proof.Machine.execRsv23 s
  | .rsv27 => Sys2Proof.Machine.execRsv27 s
  | .plp => Sys2Proof.Machine.execPlp s
  | .rolAcc => Sys2Proof.Machine.execRolAcc s
  | .rsv2b => Sys2Proof.Machine.execRsv2b s
  | .rsv2f => Sys2Proof.Machine.execRsv2f s
  | .rsv33 => Sys2Proof.Machine.execRsv33 s
  | .rsv37 => Sys2Proof.Machine.execRsv37 s
  | .sec => Sys2Proof.Machine.execSec s
  | .dea => Sys2Proof.Machine.execDea s
  | .rsv3b => Sys2Proof.Machine.execRsv3b s
  | .rsv3f => Sys2Proof.Machine.execRsv3f s
  | .rti => Sys2Proof.Machine.execRti s
  | .rsv43 => Sys2Proof.Machine.execRsv43 s
  | .rsv47 => Sys2Proof.Machine.execRsv47 s
  | .pha => Sys2Proof.Machine.execPha s
  | .lsrAcc => Sys2Proof.Machine.execLsrAcc s
  | .rsv4b => Sys2Proof.Machine.execRsv4b s
  | .rsv4f => Sys2Proof.Machine.execRsv4f s
  | .rsv53 => Sys2Proof.Machine.execRsv53 s
  | .rsv57 => Sys2Proof.Machine.execRsv57 s
  | .cli => Sys2Proof.Machine.execCli s
  | .phy => Sys2Proof.Machine.execPhy s
  | .rsv5b => Sys2Proof.Machine.execRsv5b s
  | .rsv5f => Sys2Proof.Machine.execRsv5f s
  | .rts => Sys2Proof.Machine.execRts s
  | .rsv63 => Sys2Proof.Machine.execRsv63 s
  | .rsv67 => Sys2Proof.Machine.execRsv67 s
  | .pla => Sys2Proof.Machine.execPla s
  | .rorAcc => Sys2Proof.Machine.execRorAcc s
  | .rsv6b => Sys2Proof.Machine.execRsv6b s
  | .rsv6f => Sys2Proof.Machine.execRsv6f s
  | .rsv73 => Sys2Proof.Machine.execRsv73 s
  | .rsv77 => Sys2Proof.Machine.execRsv77 s
  | .sei => Sys2Proof.Machine.execSei s
  | .ply => Sys2Proof.Machine.execPly s
  | .rsv7b => Sys2Proof.Machine.execRsv7b s
  | .rsv7f => Sys2Proof.Machine.execRsv7f s
  | .rsv83 => Sys2Proof.Machine.execRsv83 s
  | .rsv87 => Sys2Proof.Machine.execRsv87 s
  | .dey => Sys2Proof.Machine.execDey s
  | .txa => Sys2Proof.Machine.execTxa s
  | .rsv8b => Sys2Proof.Machine.execRsv8b s
  | .rsv8f => Sys2Proof.Machine.execRsv8f s
  | .rsv93 => Sys2Proof.Machine.execRsv93 s
  | .rsv97 => Sys2Proof.Machine.execRsv97 s
  | .tya => Sys2Proof.Machine.execTya s
  | .txs => Sys2Proof.Machine.execTxs s
  | .rsv9b => Sys2Proof.Machine.execRsv9b s
  | .rsv9f => Sys2Proof.Machine.execRsv9f s
  | .rsva3 => Sys2Proof.Machine.execRsva3 s
  | .rsva7 => Sys2Proof.Machine.execRsva7 s
  | .tay => Sys2Proof.Machine.execTay s
  | .tax => Sys2Proof.Machine.execTax s
  | .rsvab => Sys2Proof.Machine.execRsvab s
  | .rsvaf => Sys2Proof.Machine.execRsvaf s
  | .rsvb3 => Sys2Proof.Machine.execRsvb3 s
  | .rsvb7 => Sys2Proof.Machine.execRsvb7 s
  | .clv => Sys2Proof.Machine.execClv s
  | .tsx => Sys2Proof.Machine.execTsx s
  | .rsvbb => Sys2Proof.Machine.execRsvbb s
  | .rsvbf => Sys2Proof.Machine.execRsvbf s
  | .rsvc3 => Sys2Proof.Machine.execRsvc3 s
  | .rsvc7 => Sys2Proof.Machine.execRsvc7 s
  | .iny => Sys2Proof.Machine.execIny s
  | .dex => Sys2Proof.Machine.execDex s
  | .rsvcb => Sys2Proof.Machine.execRsvcb s
  | .rsvcf => Sys2Proof.Machine.execRsvcf s
  | .rsvd3 => Sys2Proof.Machine.execRsvd3 s
  | .rsvd7 => Sys2Proof.Machine.execRsvd7 s
  | .cld => Sys2Proof.Machine.execCld s
  | .phx => Sys2Proof.Machine.execPhx s
  | .rsvdb => Sys2Proof.Machine.execRsvdb s
  | .rsvdf => Sys2Proof.Machine.execRsvdf s
  | .rsve3 => Sys2Proof.Machine.execRsve3 s
  | .rsve7 => Sys2Proof.Machine.execRsve7 s
  | .inx => Sys2Proof.Machine.execInx s
  | .nop => Sys2Proof.Machine.execNop s
  | .rsveb => Sys2Proof.Machine.execRsveb s
  | .rsvef => Sys2Proof.Machine.execRsvef s
  | .rsvf3 => Sys2Proof.Machine.execRsvf3 s
  | .rsvf7 => Sys2Proof.Machine.execRsvf7 s
  | .sed => Sys2Proof.Machine.execSed s
  | .plx => Sys2Proof.Machine.execPlx s
  | .rsvfb => Sys2Proof.Machine.execRsvfb s
  | .rsvff => Sys2Proof.Machine.execRsvff s

end Sys2Proof.Machine
end

