-- ==== Sys2Proof/Machine/Cycle.lean ====
section
/-! DEFINITION. The instruction cycle (R15): a RES, NMI or IRQ sequence, in that order of priority (R280), or one
instruction. -/

namespace Sys2Proof.Machine

/-- Runs the instruction at `pc` (R15) and records the I flag before it (R275). -/
def runInstr (e : Inputs) (s : State) : Result :=
  match exec s.fetch s.advance with
  | .next t => .next ((t.overflowIf e (writesV s.fetch)).completed s.p.i)
  | .fault r => .fault r
  | .refused r => .refused r

/-- One step with the inputs of its boundary as a parameter (R15, R46). -/
def stepWith (e : Inputs) (s0 : State) : Result :=
  let s := s0.sample e
  if e.res then .next s.resSequence
  else if s.nmiPending then .next (s.nmiSequence.overflowIf e false)
  else if s.irqTaken e then .next ((s.afterChoice e).irqSequence.overflowIf e false)
  else runInstr e (s.afterChoice e)

/-- One step: the inputs are the next entry of `env`, which is used up (log 4). -/
def stepOnce (s : State) : Result := stepWith s.inputs { s with env := s.env.tail }

end Sys2Proof.Machine
end

