-- ==== Sys2Proof/Machine/Step.lean ====
section
/-! DEFINITION. The step of the machine, and how an instruction is placed for it to fetch. -/

namespace Sys2Proof.Machine

/-- One step of the machine (R15). -/
def step (s : State) : Host.Outcome State Fault Refusal := stepOnce s

/-- The state with an opcode-table word as the instruction that the very next step fetches and runs: its bytes at
`pc`, zeros above up to three bytes, and no event at the coming boundary (log 5). -/
def State.withFetchWord (s : State) (nbits w : Nat) : State := s.placeWord nbits w

end Sys2Proof.Machine
end

