-- ==== Sys2Proof/Safety.lean ====
section
/-! DEFINITION. What a safe run is, and the invariant of the state. The machine never stops by itself (R270,
D20): a safe run is one that always has a next state. -/

namespace Sys2Proof.Machine

/-- The outcome is a next state. -/
def Completes (r : Result) : Prop := ∃ t, r = .next t

/-- `k` steps from `s` all complete. -/
def SafeFor (k : Nat) (s : State) : Prop := Completes (Host.Core.run Sys2Proof.core k s)

/-- The state invariant: memory is in its canonical form. -/
def State.Inv (s : State) : Prop := Memory.wf s.mem = true

end Sys2Proof.Machine
end

