-- ==== Sys2Proof/Certificates/Slice0/Obligations.lean ====
section
/-! DEFINITION. The statements for the provers. `f ∈ [...]` ranges over a table of the forms an instruction has:
its op code, the instruction, and then its operand byte, or the address it stores to and the byte stored, as
each statement says. Every instruction statement starts with `pc` already at the next instruction (R15). -/

namespace Sys2Proof.Statements

open Sys2Proof.Machine

/-- The op code byte of an instruction. -/
def opcodeOf (i : Instr) : Byte := (encode i).headD 0x00#8

/-- The op codes of the instructions that write A (R20). -/
def aWriters : List Byte := [
  0x01, 0x05, 0x09, 0x0A, 0x0D, 0x11, 0x12, 0x15, 0x19, 0x1A, 0x1D, 0x21, 0x25, 0x29,
  0x2A, 0x2D, 0x31, 0x32, 0x35, 0x39, 0x3A, 0x3D, 0x41, 0x45, 0x49, 0x4A, 0x4D, 0x51,
  0x52, 0x55, 0x59, 0x5D, 0x61, 0x65, 0x68, 0x69, 0x6A, 0x6D, 0x71, 0x72, 0x75, 0x79,
  0x7D, 0x8A, 0x98, 0xA1, 0xA5, 0xA9, 0xAD, 0xB1, 0xB2, 0xB5, 0xB9, 0xBD, 0xE1, 0xE5,
  0xE9, 0xED, 0xF1, 0xF2, 0xF5, 0xF9, 0xFD]

/-- The op codes of the instructions that write X (R21). -/
def xWriters : List Byte := [
  0xA2, 0xA6, 0xAA, 0xAE, 0xB6, 0xBA, 0xBE, 0xCA, 0xE8, 0xFA]

/-- The op codes of the instructions that write Y (R21). -/
def yWriters : List Byte := [
  0x7A, 0x88, 0xA0, 0xA4, 0xA8, 0xAC, 0xB4, 0xBC, 0xC8]

/-- The op codes of the instructions that write S (R22). -/
def sWriters : List Byte := [
  0x00, 0x08, 0x20, 0x28, 0x40, 0x48, 0x5A, 0x60, 0x68, 0x7A, 0x9A, 0xDA, 0xFA]

/-- The op codes of the instructions that write `pc` (R24). -/
def pcWriters : List Byte := [
  0x00, 0x10, 0x20, 0x30, 0x40, 0x4C, 0x50, 0x60, 0x6C, 0x70, 0x7C, 0x80, 0x90, 0xB0,
  0xD0, 0xF0]

/-- The op codes of the instructions that write N (R27, R37). -/
def nWriters : List Byte := [
  0x01, 0x05, 0x06, 0x09, 0x0A, 0x0D, 0x0E, 0x11, 0x12, 0x15, 0x16, 0x19, 0x1A, 0x1D,
  0x1E, 0x21, 0x24, 0x25, 0x26, 0x28, 0x29, 0x2A, 0x2C, 0x2D, 0x2E, 0x31, 0x32, 0x34,
  0x35, 0x36, 0x39, 0x3A, 0x3C, 0x3D, 0x3E, 0x40, 0x41, 0x45, 0x46, 0x49, 0x4A, 0x4D,
  0x4E, 0x51, 0x52, 0x55, 0x56, 0x59, 0x5D, 0x5E, 0x61, 0x65, 0x66, 0x68, 0x69, 0x6A,
  0x6D, 0x6E, 0x71, 0x72, 0x75, 0x76, 0x79, 0x7A, 0x7D, 0x7E, 0x88, 0x8A, 0x98, 0xA0,
  0xA1, 0xA2, 0xA4, 0xA5, 0xA6, 0xA8, 0xA9, 0xAA, 0xAC, 0xAD, 0xAE, 0xB1, 0xB2, 0xB4,
  0xB5, 0xB6, 0xB9, 0xBA, 0xBC, 0xBD, 0xBE, 0xC0, 0xC1, 0xC4, 0xC5, 0xC6, 0xC8, 0xC9,
  0xCA, 0xCC, 0xCD, 0xCE, 0xD1, 0xD2, 0xD5, 0xD6, 0xD9, 0xDD, 0xDE, 0xE0, 0xE1, 0xE4,
  0xE5, 0xE6, 0xE8, 0xE9, 0xEC, 0xED, 0xEE, 0xF1, 0xF2, 0xF5, 0xF6, 0xF9, 0xFA, 0xFD,
  0xFE]

/-- The op codes of the instructions that write V (R28, R37). -/
def vWriters : List Byte := [
  0x24, 0x28, 0x2C, 0x34, 0x3C, 0x40, 0x61, 0x65, 0x69, 0x6D, 0x71, 0x72, 0x75, 0x79,
  0x7D, 0xB8, 0xE1, 0xE5, 0xE9, 0xED, 0xF1, 0xF2, 0xF5, 0xF9, 0xFD]

/-- The op codes of the instructions that write D (R33, R37). -/
def dWriters : List Byte := [
  0x00, 0x28, 0x40, 0xD8, 0xF8]

/-- The op codes of the instructions that write I (R34, R37). -/
def iWriters : List Byte := [
  0x00, 0x28, 0x40, 0x58, 0x78]

/-- The op codes of the instructions that write Z (R35, R37). -/
def zWriters : List Byte := [
  0x01, 0x04, 0x05, 0x06, 0x09, 0x0A, 0x0C, 0x0D, 0x0E, 0x11, 0x12, 0x14, 0x15, 0x16,
  0x19, 0x1A, 0x1C, 0x1D, 0x1E, 0x21, 0x24, 0x25, 0x26, 0x28, 0x29, 0x2A, 0x2C, 0x2D,
  0x2E, 0x31, 0x32, 0x34, 0x35, 0x36, 0x39, 0x3A, 0x3C, 0x3D, 0x3E, 0x40, 0x41, 0x45,
  0x46, 0x49, 0x4A, 0x4D, 0x4E, 0x51, 0x52, 0x55, 0x56, 0x59, 0x5D, 0x5E, 0x61, 0x65,
  0x66, 0x68, 0x69, 0x6A, 0x6D, 0x6E, 0x71, 0x72, 0x75, 0x76, 0x79, 0x7A, 0x7D, 0x7E,
  0x88, 0x89, 0x8A, 0x98, 0xA0, 0xA1, 0xA2, 0xA4, 0xA5, 0xA6, 0xA8, 0xA9, 0xAA, 0xAC,
  0xAD, 0xAE, 0xB1, 0xB2, 0xB4, 0xB5, 0xB6, 0xB9, 0xBA, 0xBC, 0xBD, 0xBE, 0xC0, 0xC1,
  0xC4, 0xC5, 0xC6, 0xC8, 0xC9, 0xCA, 0xCC, 0xCD, 0xCE, 0xD1, 0xD2, 0xD5, 0xD6, 0xD9,
  0xDD, 0xDE, 0xE0, 0xE1, 0xE4, 0xE5, 0xE6, 0xE8, 0xE9, 0xEC, 0xED, 0xEE, 0xF1, 0xF2,
  0xF5, 0xF6, 0xF9, 0xFA, 0xFD, 0xFE]

/-- The op codes of the instructions that write C (R36, R37). -/
def cWriters : List Byte := [
  0x06, 0x0A, 0x0E, 0x16, 0x18, 0x1E, 0x26, 0x28, 0x2A, 0x2E, 0x36, 0x38, 0x3E, 0x40,
  0x46, 0x4A, 0x4E, 0x56, 0x5E, 0x61, 0x65, 0x66, 0x69, 0x6A, 0x6D, 0x6E, 0x71, 0x72,
  0x75, 0x76, 0x79, 0x7D, 0x7E, 0xC0, 0xC1, 0xC4, 0xC5, 0xC9, 0xCC, 0xCD, 0xD1, 0xD2,
  0xD5, 0xD9, 0xDD, 0xE0, 0xE1, 0xE4, 0xE5, 0xE9, 0xEC, 0xED, 0xF1, 0xF2, 0xF5, 0xF9,
  0xFD]

/-- The op codes of the instructions that write memory (R130, R12). -/
def memoryWriters : List Byte := [
  0x00, 0x04, 0x06, 0x08, 0x0C, 0x0E, 0x14, 0x16, 0x1C, 0x1E, 0x20, 0x26, 0x2E, 0x36,
  0x3E, 0x46, 0x48, 0x4E, 0x56, 0x5A, 0x5E, 0x64, 0x66, 0x6E, 0x74, 0x76, 0x7E, 0x81,
  0x84, 0x85, 0x86, 0x8C, 0x8D, 0x8E, 0x91, 0x92, 0x94, 0x95, 0x96, 0x99, 0x9C, 0x9D,
  0x9E, 0xC6, 0xCE, 0xD6, 0xDA, 0xDE, 0xE6, 0xEE, 0xF6, 0xFE]

/-- The op codes of ADC and SBC (R180, R181). -/
def adcSbc : List Byte := [
  0x61, 0x65, 0x69, 0x6D, 0x71, 0x72, 0x75, 0x79, 0x7D, 0xE1, 0xE5, 0xE9, 0xED, 0xF1,
  0xF2, 0xF5, 0xF9, 0xFD]

/-- The byte image of P (R31): `128*N + 64*V + 32 + 16*b + 8*D + 4*I + 2*Z + C`. -/
def statusByte (b : Bool) (p : Flags) : Byte :=
  BitVec.ofNat 8 (128 * p.n.toNat + 64 * p.v.toNat + 32 + 16 * b.toNat + 8 * p.d.toNat +
    4 * p.i.toNat + 2 * p.z.toNat + p.c.toNat)

/-- The flags loaded from a byte (R32). -/
def flagsFrom (v : Byte) : Flags :=
  ⟨v.getLsbD 7, v.getLsbD 6, v.getLsbD 3, v.getLsbD 2, v.getLsbD 1, v.getLsbD 0⟩

/-- What an address reads as, as a data byte, after `v` is written to it in `s`: `v` if it is RAM; else what it read
as before, for nothing is stored (log 3). -/
def afterStore (s : State) (a : Addr) (v : Byte) : Byte := if s.kindAt a = .ram then v else s.read a

/-- All of page one, where the stack is (R22, R67), is RAM. -/
def StackIsRam (s : State) : Prop := ∀ b : Byte, s.kindAt (stackAddr b) = .ram

/-- The byte stored at `x` after the pushes of an interrupt entry (R279): PCH, PCL and the status byte at falling
addresses of page one where those are RAM, every other byte as before. -/
def entryByte (s : State) (ret : Addr) (b : Bool) (x : Addr) : Byte :=
  if s.kindAt x = .ram then
    if x = stackAddr s.sp then highByte ret
    else if x = stackAddr (s.sp - 1) then lowByte ret
    else if x = stackAddr (s.sp - 2) then statusByte b s.p
    else Memory.read s.mem x.toNat
  else Memory.read s.mem x.toNat

/-- `t` is `s` after the entry of an interrupt (R279) that pushes the return address `ret` and the status byte with
B = `b`, and goes through `vector`: three stack bytes written, every other byte of memory and the map as before;
I = 1, D = 0 and the other flags, A, X and Y as before; S lower by 3; `pc` from the vector, low byte first. -/
def EntryFrom (s t : State) (ret : Addr) (b : Bool) (vector : Addr) : Prop :=
  (∀ x : Addr, Memory.read t.mem x.toNat = entryByte s ret b x) ∧ t.map = s.map ∧
  t.sp = s.sp - 3 ∧ t.p = { s.p with i := true, d := false } ∧
  t.pc = joinBytes (s.readAs .vector (vector + 1)) (s.readAs .vector vector) ∧
  t.a = s.a ∧ t.x = s.x ∧ t.y = s.y

/-- The forms of ADC: op code, instruction, operand byte (R180). -/
def adcForms (b : Byte) (w : Addr) (s : State) : List (Byte × Instr × Byte) :=
  [(0x61#8, Instr.adcIzx b, s.read (s.eaIzx b)), (0x65#8, .adcZpg b, s.read (s.eaZpg b)),
      (0x69#8, .adcImm b, b), (0x6D#8, .adcAbs w, s.read (s.eaAbs w)),
      (0x71#8, .adcIzy b, s.read (s.eaIzy b)), (0x72#8, .adcIzp b, s.read (s.eaIzp b)),
      (0x75#8, .adcZpx b, s.read (s.eaZpx b)), (0x79#8, .adcAby w, s.read (s.eaAby w)),
      (0x7D#8, .adcAbx w, s.read (s.eaAbx w))]

/-- The forms of SBC: op code, instruction, operand byte (R181). -/
def sbcForms (b : Byte) (w : Addr) (s : State) : List (Byte × Instr × Byte) :=
  [(0xE1#8, Instr.sbcIzx b, s.read (s.eaIzx b)), (0xE5#8, .sbcZpg b, s.read (s.eaZpg b)),
      (0xE9#8, .sbcImm b, b), (0xED#8, .sbcAbs w, s.read (s.eaAbs w)),
      (0xF1#8, .sbcIzy b, s.read (s.eaIzy b)), (0xF2#8, .sbcIzp b, s.read (s.eaIzp b)),
      (0xF5#8, .sbcZpx b, s.read (s.eaZpx b)), (0xF9#8, .sbcAby w, s.read (s.eaAby w)),
      (0xFD#8, .sbcAbx w, s.read (s.eaAbx w))]

/-- `dec(b)` (R182): the decimal number that two digits stand for. -/
def decimalValue (b : Byte) : Nat := 10 * (b.toNat / 16) + b.toNat % 16

/-- The nibble algorithm of R182 for a decimal ADC: result and carry. -/
def nibbleAdd (a m : Byte) (c : Bool) : Byte × Bool :=
  let al := a.toNat % 16 + m.toNat % 16 + c.toNat
  let al := if 10 ≤ al then (al + 6) % 16 + 16 else al
  let t := a.toNat / 16 * 16 + m.toNat / 16 * 16 + al
  let t := if 160 ≤ t then t + 96 else t
  (BitVec.ofNat 8 t, decide (256 ≤ t))

/-- The algorithm of R183 for a decimal SBC: result and carry (the carry of the binary SBC of R181). -/
def nibbleSub (a m : Byte) (c : Bool) : Byte × Bool :=
  let al : Int := (a.toNat % 16 : Nat) - (m.toNat % 16 : Nat) + c.toNat - 1
  let t : Int := a.toNat - m.toNat + c.toNat - 1
  let carry := decide (256 ≤ a.toNat + (255 - m.toNat) + c.toNat)
  let t := if t < 0 then t - 96 else t
  let t := if al < 0 then t - 6 else t
  (BitVec.ofInt 8 t, carry)

end Sys2Proof.Statements

open Sys2Proof Sys2Proof.Machine Sys2Proof.Statements

/-- Decoding the encoding of any instruction gives that instruction back. For every instruction, with every
operand value, and any bytes after it, decoding its bytes gives the instruction and exactly the bytes after
it. (R100, R102, R106, R112, R114.) -/
def Obligations.DecodeEncodeAgree : Prop :=
  ∀ (i : Instr) (rest : List Byte), decode (encode i ++ rest) = .ok (i, rest)

/-- Every byte string the decoder accepts is the encoding of what it answers. If the decoder reads instruction i
from a byte string and leaves some bytes over, then the string is the encoding of i followed by those bytes:
each string of bytes has one meaning and no byte is dropped. (R100, R113, R114.) -/
def Obligations.EncodeDecodeAgree : Prop :=
  ∀ (bs rest : List Byte) (i : Instr), decode bs = .ok (i, rest) → bs = encode i ++ rest

/-- Any three bytes begin with an instruction of the length R101 gives their first byte. For every first byte
and every two bytes after it, decoding answers an instruction and leaves over exactly the bytes after the
length of R101, which is 1, 2 or 3. No byte value in op code position is refused. (R101, R102, R112, R113,
R114.) -/
def Obligations.NoEncodingIsIllegal : Prop :=
  ∀ (op b1 b2 : Byte) (rest : List Byte),
    1 ≤ instrLength op ∧ instrLength op ≤ 3 ∧
      ∃ i, decode (op :: b1 :: b2 :: rest) =
        .ok (i, (op :: b1 :: b2 :: rest).drop (instrLength op))

/-- Words written out from the op code lists decode to the instructions they stand for. Eight byte strings
written from the op code lists, one or more for each format size, decode to the instruction, operand bytes
low byte first. (R102, R106, R107, R108, R112.) -/
def Obligations.SampleWordsDecode : Prop :=
  decode [0xA9#8, 0x7F#8] = .ok (.ldaImm 0x7F#8, []) ∧
    decode [0x9E#8, 0x00#8, 0x30#8] = .ok (.stzAbx 0x3000#16, []) ∧
    decode [0x7C#8, 0x34#8, 0x12#8] = .ok (.jmpIax 0x1234#16, []) ∧
    decode [0x72#8, 0x50#8] = .ok (.adcIzp 0x50#8, []) ∧
    decode [0x0A#8] = .ok (.aslAcc, []) ∧
    decode [0x80#8, 0xFE#8] = .ok (.bra 0xFE#8, []) ∧
    decode [0x00#8] = .ok (.brk, []) ∧
    decode [0x5C#8, 0x34#8, 0x12#8] = .ok (.rsv5c 0x1234#16, [])

/-- A step at a boundary with no event to take runs the instruction that the bytes at pc decode to. If no RES,
NMI or SO event is there, and IRQ is not low or I was 1 both before and after the last instruction, and the
bytes at pc decode to i, then the step is exec of i with pc moved past the bytes of i (modulo 65536) and the
boundary's inputs used up; the I flag before the instruction is recorded for R275, and the step is counted.
That the inputs come from a list in the state, and that steps are counted, is the model's choice (log 4, log
19). (R15, R24, R275.) -/
def Obligations.StepRunsDecodedInstruction : Prop :=
  ∀ (s : State) (i : Instr) (rest : List Byte),
    decode s.bytesAtPc = .ok (i, rest) →
    s.inputs.res = false → (s.nmiPending || s.inputs.nmiEdge) = false →
    s.inputs.soEdge = false → s.inputs.soDuring = false →
    (s.inputs.irqLow = false ∨ (s.iBefore = true ∧ s.p.i = true)) →
    step s =
      match exec i { s with
          pc := s.pc + BitVec.ofNat 16 (encode i).length, env := s.env.tail } with
      | .next t => .next { t with iBefore := s.p.i, steps := t.steps + 1 }
      | .fault r => .fault r
      | .refused r => .refused r

/-- A RES event sets I, clears D, loads pc from the restart vector and writes no memory. If RES is pulsed at the
boundary, then, whatever else is pending there, the step ends with I = 1, D = 0, pc from 0xFFFC (low) and
0xFFFD (high), no NMI pending, and memory and the memory map as before. Of A, X, Y, S, N, V, Z and C nothing
is said: they are draws. (R280, R300, R301, R302.) -/
def Obligations.ResEventRunsReset : Prop :=
  ∀ s : State, s.inputs.res = true →
    ∃ t, step s = .next t ∧ t.p.i = true ∧ t.p.d = false ∧
      t.pc = joinBytes (s.readAs .vector 0xFFFD#16) (s.readAs .vector 0xFFFC#16) ∧
      t.nmiPending = false ∧ t.mem = s.mem ∧ t.map = s.map

/-- A pending NMI is taken at the next boundary without RES, whatever I and IRQ are. If no RES is pulsed and an
NMI is pending or its edge arrives, the step is the NMI entry: PCH, PCL and P with B = 0 are pushed, S falls
by 3, I is set, D cleared, pc comes from 0xFFFA/0xFFFB, the request is used up, and A, X, Y, N, V, Z, C, the
rest of memory and the map stay. It holds for every I and every level of IRQ. Of the model's own fields, one
entry of the list of inputs is used up (log 4), no draw is counted (log 15), the step is counted (log 19),
and the I flag recorded as I_before of the next boundary is the new one, 1, as R275 has it after a sequence
(log 6). A push where the stack page is not RAM stores nothing (log 3). (R277, R279, R280, R41, R275.) -/
def Obligations.NmiTakenBeforeIrq : Prop :=
  ∀ s : State, s.inputs.res = false → (s.nmiPending || s.inputs.nmiEdge) = true →
    s.inputs.soEdge = false → s.inputs.soDuring = false →
    ∃ t, step s = .next t ∧ EntryFrom s t s.pc false 0xFFFA#16 ∧ t.nmiPending = false ∧
      t.iBefore = true ∧ t.draws = s.draws ∧ t.steps = s.steps + 1 ∧ t.env = s.env.tail

/-- A low IRQ line is taken at a boundary where I is and was 0 and no RES or NMI is there. If IRQ is low, I was
0 before and after the instruction just completed, and no RES or NMI is taken, the step is the IRQ entry:
PCH, PCL and P with B = 0 are pushed, S falls by 3, I is set, D cleared, pc comes from 0xFFFE/0xFFFF, and A,
X, Y, N, V, Z, C, the rest of memory and the map stay. Of the model's own fields, one entry of the list of
inputs is used up (log 4), no draw is counted (log 15), the step is counted (log 19), and the I flag
recorded as I_before of the next boundary is the new one, 1, as R275 has it after a sequence (log 6). A push
where the stack page is not RAM stores nothing (log 3). (R272, R275, R276, R279.) -/
def Obligations.UnmaskedIrqTaken : Prop :=
  ∀ s : State,
    s.inputs.res = false → (s.nmiPending || s.inputs.nmiEdge) = false →
    s.inputs.soEdge = false → s.inputs.soDuring = false →
    s.inputs.irqLow = true → s.iBefore = false → s.p.i = false →
    ∃ t, step s = .next t ∧ EntryFrom s t s.pc false 0xFFFE#16 ∧ t.nmiPending = false ∧
      t.iBefore = true ∧ t.draws = s.draws ∧ t.steps = s.steps + 1 ∧ t.env = s.env.tail

/-- Where I changed across the last instruction, a low IRQ is taken or the next instruction runs. If IRQ is low,
exactly one of I_before and I_after is 0, and no other event is there, the step is the IRQ entry or it is
exec of the instruction at pc: one of the two behaviours that R275 admits, and no third. The entry is that
of R276 and R279. Which one happens is a free value of the model (log 6), which uses up one draw (log 15);
that the boundary uses up one entry of the list of inputs and that the step is counted are the model's
choice (log 4, log 19), and a push where the stack page is not RAM stores nothing (log 3). (R275, R276,
R279, R306.) -/
def Obligations.IrqAfterIChangeIsEitherWay : Prop :=
  ∀ (s : State) (i : Instr) (rest : List Byte),
    decode s.bytesAtPc = .ok (i, rest) →
    s.inputs.res = false → (s.nmiPending || s.inputs.nmiEdge) = false →
    s.inputs.soEdge = false → s.inputs.soDuring = false →
    s.inputs.irqLow = true → s.iBefore ≠ s.p.i →
    (∃ t, step s = .next t ∧ EntryFrom s t s.pc false 0xFFFE#16 ∧ t.nmiPending = false ∧
      t.iBefore = true ∧ t.draws = s.draws + 1 ∧ t.steps = s.steps + 1 ∧ t.env = s.env.tail) ∨
    ∃ t, exec i { s with
          pc := s.pc + BitVec.ofNat 16 (encode i).length, env := s.env.tail
          draws := s.draws + 1 } = .next t ∧
      step s = .next { t with iBefore := s.p.i, steps := t.steps + 1 }

/-- An SO edge at a boundary is the same as V already being 1 there. A step whose boundary brings an SO edge is
the step of the same state with V = 1 and without the edge: the edge sets V and does nothing else. That the
edge counts before an interrupt taken at the same boundary is the model's choice (log 10). (R274, R28, R43.) -/
def Obligations.SoEdgeAtBoundarySetsV : Prop :=
  ∀ (s : State) (e : Inputs) (later : List Inputs),
    step { s with env := { e with soEdge := true } :: later } =
      step { s with
        p := { s.p with v := true }
        env := { e with soEdge := false } :: later }

/-- An SO edge during a step changes nothing but V, and sets V unless an instruction that writes V runs. Take a
boundary without RES, and compare the step with an SO edge during it to the same step without: both
complete, and they differ in V and the count of draws alone. V ends as 1 if an NMI is taken, if an IRQ is
taken (whatever instruction stands at pc), or if the instruction at pc is not one that writes V. Where an
instruction that writes V runs, V is a free value (R274). Two things here are the model's choice (log 10):
that an instruction that reads or pushes V during the edge (BVC, BVS, PHP, BRK), and the pushes of an NMI or
IRQ entry, see the V of the start of the step, so that nothing but V differs; and that V ends as 1 wherever
no instruction that writes V runs. The count of draws is the model's own (log 15). (R274, R37.) -/
def Obligations.SoEdgeDuringStepTouchesOnlyV : Prop :=
  ∀ (s : State) (e : Inputs) (later : List Inputs), e.res = false →
    ∃ t u, step { s with env := { e with soDuring := false } :: later } = .next t ∧
      step { s with env := { e with soDuring := true } :: later } = .next u ∧
      (∃ (v : Bool) (k : Nat), u = { t with p := { t.p with v := v }, draws := k }) ∧
      (writesV s.fetch = false → u.p.v = true) ∧
      ((s.nmiPending || e.nmiEdge) = true → u.p.v = true) ∧
      (s.irqTaken e = true → u.p.v = true)

/-- Every instruction completes in every state. For each of the 256 constructors, with every operand, and for
every state, exec answers a next state: no fault and no refusal. (R113, R270.) -/
def Obligations.EveryInstructionCompletes : Prop :=
  ∀ (i : Instr) (s : State), ∃ t, exec i s = .next t

/-- The step is total: every state has a successor. For every state, whatever its memory, registers, flags,
program counter and pending inputs, the step answers a next state: the machine never faults, stops or is
refused. (R15, R270.) -/
def Obligations.EveryStepCompletes : Prop :=
  ∀ s : State, ∃ t, step s = .next t

/-- A run of any length from any state never stops. For every number of steps and every starting state, the run
completes: nothing the machine does leads to a state from which it faults or is refused. (R270, R284.) -/
def Obligations.EveryRunIsSafe : Prop :=
  ∀ (k : Nat) (s : State), SafeFor k s

/-- Every step keeps memory canonical, keeps the memory map, and stores in RAM alone. For every state, whatever
instruction or sequence the step runs: if memory lists rising addresses below 65,536 and no redundant entry,
so does the next state's; the memory map stays; and every byte of memory that the map does not call RAM
stays as it was. The canonical form is the model's representation of the 65,536 bytes (log 2); that a write
to ROM, to a device or to nothing stores nothing is the model's choice for mem_map, as D25 suggests (log 3).
(R11, R40, R60, R69.) -/
def Obligations.StepKeepsCanonicalMemoryAndStoresInRamAlone : Prop :=
  ∀ s t : State, step s = .next t →
    (s.Inv → t.Inv) ∧ t.map = s.map ∧
      ∀ x : Addr, s.kindAt x ≠ .ram → Memory.read t.mem x.toNat = Memory.read s.mem x.toNat

/-- The memory of the reset state, which the model chooses (log 2), has the canonical form. The invariant of
memory holds of State.reset. The canonical form is the model's representation of the 65,536 bytes, and that
nothing is listed at reset is its choice too: R45 leaves the contents of memory after power-up open (log 2).
(R45, R40.) -/
def Obligations.ResetMemoryIsCanonical : Prop :=
  State.reset.Inv

/-- Two canonical memories that read the same at every address are equal. If two memories are in canonical form
and every one of the 65,536 addresses reads the same in both, they are the same list: equal contents are
equal data (the model's representation, log 2). (R40, R60.) -/
def Obligations.CanonicalMemoriesThatReadAlikeAreEqual : Prop :=
  ∀ m n : Memory, Memory.wf m = true → Memory.wf n = true →
    (∀ a : Addr, Memory.read m a.toNat = Memory.read n a.toNat) → m = n

/-- After reset I is 1, D is 0, no NMI is pending and pc is the restart vector. The values the spec gives for
reset: I = 1, D = 0, nmi_pending = 0, pc = Read16(0xFFFC) over the reset memory and map. (The values of A,
X, Y, S, N, V, Z and C are the model's, log 1, and are not stated here.) (R45, R300, R301.) -/
def Obligations.ResetStateOfTheSpec : Prop :=
  State.reset.p.i = true ∧ State.reset.p.d = false ∧ State.reset.nmiPending = false ∧
    State.reset.pc = joinBytes (State.reset.readAs .vector 0xFFFD#16) (State.reset.readAs .vector 0xFFFC#16)

/-- A, X, Y, S and pc are changed only by the instructions the spec lists as their writers. For every
instruction and state: if the op code is not one the spec lists as a writer of A, exec leaves A unchanged;
likewise X, Y, S and pc (pc is already at the next instruction). (R20, R21, R22, R24.) -/
def Obligations.RegistersChangeOnlyByTheirWriters : Prop :=
  ∀ (i : Instr) (s t : State), exec i s = .next t →
    (opcodeOf i ∉ aWriters → t.a = s.a) ∧ (opcodeOf i ∉ xWriters → t.x = s.x) ∧
    (opcodeOf i ∉ yWriters → t.y = s.y) ∧ (opcodeOf i ∉ sWriters → t.sp = s.sp) ∧
    (opcodeOf i ∉ pcWriters → t.pc = s.pc)

/-- Each flag is changed only by the instructions that the flag-write table lists for it. For every instruction
and state, each of N, V, D, I, Z and C is unchanged by exec unless the op code is of an instruction that the
table lists as writing that flag; so an instruction that the table does not list writes no flag. (R28, R33,
R34, R35, R36, R37.) -/
def Obligations.FlagsChangeOnlyByTheirWriters : Prop :=
  ∀ (i : Instr) (s t : State), exec i s = .next t →
    (opcodeOf i ∉ nWriters → t.p.n = s.p.n) ∧ (opcodeOf i ∉ vWriters → t.p.v = s.p.v) ∧
    (opcodeOf i ∉ dWriters → t.p.d = s.p.d) ∧ (opcodeOf i ∉ iWriters → t.p.i = s.p.i) ∧
    (opcodeOf i ∉ zWriters → t.p.z = s.p.z) ∧
    (opcodeOf i ∉ cWriters → t.p.c = s.p.c)

/-- Memory is changed only by stores, memory read-modify-write instructions, pushes, JSR and BRK. For every
instruction and state, if the op code is not of STA, STX, STY, STZ, of a memory form of ASL, LSR, ROL, ROR,
INC, DEC, TSB, TRB, or of PHA, PHP, PHX, PHY, JSR or BRK, exec leaves every byte of memory as it was; no
addressing mode and no reserved op code writes memory. (R130, R148, R164, R206, R240.) -/
def Obligations.MemoryChangesOnlyByStoringInstructions : Prop :=
  ∀ (i : Instr) (s t : State), exec i s = .next t → opcodeOf i ∉ memoryWriters →
    ∀ x, t.read x = s.read x

/-- No instruction touches the pending NMI, the map or the inputs; only a decimal ADC or SBC draws. For every
instruction and state, exec leaves nmi_pending, the memory map, the recorded I flag, the list of inputs and
the count of steps as they were, and leaves the count of draws as it was unless D = 1 and the op code is of
ADC or SBC. The last four fields are the model's own (log 6, log 4, log 19, log 15). (R41, R46, R182, R183.) -/
def Obligations.InstructionsDoNotTouchTheInputs : Prop :=
  ∀ (i : Instr) (s t : State), exec i s = .next t →
    t.nmiPending = s.nmiPending ∧ t.map = s.map ∧ t.iBefore = s.iBefore ∧ t.env = s.env ∧
      t.steps = s.steps ∧
      (s.p.d = false ∨ opcodeOf i ∉ adcSbc → t.draws = s.draws)

/-- RTI at the end of a BRK handler restores the flags, S and the address after the skipped byte. Where the
stack page is RAM, run BRK, then RTI in a state that has the same S, memory and map (as after a handler that
leaves its stack frame alone): all six flags and S are those before the BRK, and pc is the address of the
BRK op code plus 2. (R256, R257, R279, R283.) -/
def Obligations.BrkThenRtiResumesAfterTheSkippedByte : Prop :=
  ∀ s t u : State, ∀ r : State, StackIsRam s → exec .brk s = .next t →
    r.sp = t.sp → r.mem = t.mem → r.map = t.map → exec .rti r = .next u →
    u.pc = s.pc + 1 ∧ u.p = s.p ∧ u.sp = s.sp ∧ u.a = r.a ∧ u.x = r.x ∧ u.y = r.y

/-- RTI at the end of an NMI or IRQ handler resumes at the interrupted instruction with its flags. Where the
stack page is RAM, take an NMI (one pending, or its edge there) or an IRQ by a step without RES, then RTI in
a state with the same S, memory and map: pc, S, N, D, I, Z and C are exactly those of the interrupted
program, and V is its V, or 1 if an SO edge came at the boundary. What is said of V where SO is active is
the model's choice (log 10, unsafe): that an edge at the boundary sets V before the entry pushes it; and
that an edge during the entry, which no hypothesis here shuts out, is not seen by the pushes of the entry,
so that RTI brings back the V of the start of the entry. With no SO edge, V follows from R31, R279 and R283.
The hypothesis on IRQ is the model's own test: low, with I 0 before and after the last instruction, or with
one of them 0 and the free choice of R275 for it (log 6). (R275, R276, R277, R282, R283, R274.) -/
def Obligations.InterruptThenRtiResumes : Prop :=
  ∀ s t u r : State, StackIsRam s → s.inputs.res = false →
    ((s.nmiPending || s.inputs.nmiEdge) = true ∨ s.irqTaken s.inputs = true) →
    step s = .next t → r.sp = t.sp → r.mem = t.mem → r.map = t.map → exec .rti r = .next u →
    u.pc = s.pc ∧ u.p = { s.p with v := s.p.v || s.inputs.soEdge } ∧ u.sp = s.sp

/-- RTS undoes JSR: it returns to the instruction after the JSR with S restored. Where the stack page is RAM,
run JSR, then RTS in any state with the same S, memory and map: pc is that after the JSR instruction, S is
that before it, and the flags and registers of the subroutine pass through. (R231, R232, R233.) -/
def Obligations.JsrThenRtsReturns : Prop :=
  ∀ (w : Addr) (s t r u : State), StackIsRam s → exec (.jsr w) s = .next t →
    r.sp = t.sp → r.mem = t.mem → r.map = t.map → exec .rts r = .next u →
    u.pc = s.pc ∧ u.sp = s.sp ∧ u.p = r.p ∧ u.a = r.a ∧ u.x = r.x ∧ u.y = r.y

/-- PLA, PLX and PLY after any of PHA, PHX and PHY give the pushed byte and restore S. Where the stack page is
RAM, after pushing A, X or Y, each of the three pulls in a state with the same S, memory and map loads the
pushed byte, sets N and Z from it and restores S. (R12, R240, R242, R243, R244, R246, R247.) -/
def Obligations.PullsUndoPushes : Prop :=
  ∀ s t r : State, StackIsRam s → ∀ f ∈ [(Instr.pha, s.a), (.phx, s.x), (.phy, s.y)],
    exec f.1 s = .next t → r.sp = t.sp → r.mem = t.mem → r.map = t.map →
    exec .pla r = .next { r with a := f.2, sp := s.sp
                                 p := { r.p with n := f.2.msb, z := f.2 == 0#8 } } ∧
    exec .plx r = .next { r with x := f.2, sp := s.sp
                                 p := { r.p with n := f.2.msb, z := f.2 == 0#8 } } ∧
    exec .ply r = .next { r with y := f.2, sp := s.sp
                                 p := { r.p with n := f.2.msb, z := f.2 == 0#8 } }

/-- PHP after PLP pushes the pulled byte with bits 5 and 4 set. Whatever byte PLP pulls, a PHP after it pushes
that byte with bits 5 and 4 set, at the same place, and S is as before both: the two bits are not state.
Where the address is not RAM nothing is stored: the model's choice for mem_map, as D25 suggests (log 3).
(R29, R30, R31, R32, R241, R245.) -/
def Obligations.PlpThenPhpForcesBitsFiveAndFour : Prop :=
  ∀ s t u : State, exec .plp s = .next t → exec .php t = .next u →
    u.read (stackAddr (s.sp + 1)) =
        afterStore s (stackAddr (s.sp + 1)) (s.readAs .stack (stackAddr (s.sp + 1)) ||| 0x30#8) ∧
      u.sp = s.sp

/-- Zero-page modes wrap modulo 256, absolute modes modulo 65536, and the index is unsigned. The effective
addresses are b, (b + X) mod 256 and (b + Y) mod 256 for ZPG, ZPX and ZPY; w, (w + X) mod 65536 and (w + Y)
mod 65536 for ABS, ABX and ABY. (R79, R134, R135, R136, R137, R138, R139.) -/
def Obligations.DirectModesAddTheIndexUnsigned : Prop :=
  ∀ (s : State) (b : Byte) (w : Addr),
    (s.eaZpg b).toNat = b.toNat ∧ (s.eaZpx b).toNat = (b.toNat + s.x.toNat) % 256 ∧
      (s.eaZpy b).toNat = (b.toNat + s.y.toNat) % 256 ∧
      s.eaAbs w = w ∧ (s.eaAbx w).toNat = (w.toNat + s.x.toNat) % 65536 ∧
      (s.eaAby w).toNat = (w.toNat + s.y.toNat) % 65536

/-- IZX, IZY and IZP read both pointer bytes in page zero, low byte first. With z the pointer's address (b + X
mod 256 for IZX, b for IZY and IZP), the low byte is read at z and the high byte at z + 1 modulo 256; IZY
adds Y modulo 65536. (R141, R142, R144, R145.) -/
def Obligations.IndirectModesReadPointersInPageZero : Prop :=
  ∀ (s : State) (b : Byte),
    (s.eaIzx b).toNat =
        256 * (s.readAs .pointer (BitVec.ofNat 16 ((b.toNat + s.x.toNat + 1) % 256))).toNat +
          (s.readAs .pointer (BitVec.ofNat 16 ((b.toNat + s.x.toNat) % 256))).toNat ∧
    (s.eaIzp b).toNat =
        256 * (s.readAs .pointer (BitVec.ofNat 16 ((b.toNat + 1) % 256))).toNat +
          (s.readAs .pointer (BitVec.ofNat 16 b.toNat)).toNat ∧
    (s.eaIzy b).toNat = ((s.eaIzp b).toNat + s.y.toNat) % 65536

/-- LDA, LDX and LDY load their operand byte and set N and Z from it, in every form. For each form of LDA, LDX
and LDY, with its op code: exec answers the state with A, X or Y the operand byte (the immediate, or the
byte at the effective address), N its bit 7, Z whether it is zero, and everything else, memory included,
unchanged. (R161, R162, R163.) -/
def Obligations.LoadsSetRegisterNAndZ : Prop :=
  ∀ (b : Byte) (w : Addr) (s : State),
    (∀ f ∈
     [(0xA1#8, Instr.ldaIzx b, s.read (s.eaIzx b)), (0xA5#8, .ldaZpg b, s.read (s.eaZpg b)),
      (0xA9#8, .ldaImm b, b), (0xAD#8, .ldaAbs w, s.read (s.eaAbs w)),
      (0xB1#8, .ldaIzy b, s.read (s.eaIzy b)), (0xB2#8, .ldaIzp b, s.read (s.eaIzp b)),
      (0xB5#8, .ldaZpx b, s.read (s.eaZpx b)), (0xB9#8, .ldaAby w, s.read (s.eaAby w)),
      (0xBD#8, .ldaAbx w, s.read (s.eaAbx w))],
      (encode f.2.1).head? = some f.1 ∧ exec f.2.1 s = .next { s with
        a := f.2.2, p := { s.p with n := f.2.2.msb, z := f.2.2 == 0#8 } }) ∧
    (∀ f ∈
     [(0xA2#8, Instr.ldxImm b, b), (0xA6#8, .ldxZpg b, s.read (s.eaZpg b)),
      (0xAE#8, .ldxAbs w, s.read (s.eaAbs w)), (0xB6#8, .ldxZpy b, s.read (s.eaZpy b)),
      (0xBE#8, .ldxAby w, s.read (s.eaAby w))],
      (encode f.2.1).head? = some f.1 ∧ exec f.2.1 s = .next { s with
        x := f.2.2, p := { s.p with n := f.2.2.msb, z := f.2.2 == 0#8 } }) ∧
    (∀ f ∈
     [(0xA0#8, Instr.ldyImm b, b), (0xA4#8, .ldyZpg b, s.read (s.eaZpg b)),
      (0xAC#8, .ldyAbs w, s.read (s.eaAbs w)), (0xB4#8, .ldyZpx b, s.read (s.eaZpx b)),
      (0xBC#8, .ldyAbx w, s.read (s.eaAbx w))],
      (encode f.2.1).head? = some f.1 ∧ exec f.2.1 s = .next { s with
        y := f.2.2, p := { s.p with n := f.2.2.msb, z := f.2.2 == 0#8 } })

/-- STA, STX, STY and STZ write A, X, Y or zero at the effective address and nothing else. For each form of STA,
STX, STY and STZ, with its op code: exec answers a state in which the byte at the effective address is A, X,
Y or zero, every other byte of memory reads as before, and every register and flag is unchanged. Where the
address is not RAM nothing is stored: the model's choice for mem_map, as D25 suggests (log 3). (R164, R165,
R166, R167.) -/
def Obligations.StoresWriteOneByte : Prop :=
  ∀ (b : Byte) (w : Addr) (s : State), ∀ f ∈
     [(0x81#8, Instr.staIzx b, s.eaIzx b, s.a), (0x85#8, .staZpg b, s.eaZpg b, s.a),
      (0x8D#8, .staAbs w, s.eaAbs w, s.a), (0x91#8, .staIzy b, s.eaIzy b, s.a),
      (0x92#8, .staIzp b, s.eaIzp b, s.a), (0x95#8, .staZpx b, s.eaZpx b, s.a),
      (0x99#8, .staAby w, s.eaAby w, s.a), (0x9D#8, .staAbx w, s.eaAbx w, s.a)] ++
     [(0x86#8, Instr.stxZpg b, s.eaZpg b, s.x), (0x8E#8, .stxAbs w, s.eaAbs w, s.x),
      (0x96#8, .stxZpy b, s.eaZpy b, s.x)] ++
     [(0x84#8, Instr.styZpg b, s.eaZpg b, s.y), (0x8C#8, .styAbs w, s.eaAbs w, s.y),
      (0x94#8, .styZpx b, s.eaZpx b, s.y)] ++
     [(0x64#8, Instr.stzZpg b, s.eaZpg b, 0x00#8), (0x74#8, .stzZpx b, s.eaZpx b, 0x00#8),
      (0x9C#8, .stzAbs w, s.eaAbs w, 0x00#8), (0x9E#8, .stzAbx w, s.eaAbx w, 0x00#8)],
    (encode f.2.1).head? = some f.1 ∧
      ∃ t, exec f.2.1 s = .next t ∧ t.read f.2.2.1 = afterStore s f.2.2.1 f.2.2.2 ∧
        (∀ x, x ≠ f.2.2.1 → t.read x = s.read x) ∧ t = { s with mem := t.mem }

/-- TAX, TAY, TXA, TYA and TSX copy a register and set N and Z; TXS copies X to S and sets no flag. Each
transfer, with its op code, answers the state with the destination equal to the source, N and Z from the
value copied (TXS: no flag at all), and everything else unchanged. (R168, R169, R170, R171, R172, R173.) -/
def Obligations.TransfersCopyAndSetNZ : Prop :=
  ∀ s : State,
    (encode .tax = [0xAA#8] ∧ encode .tay = [0xA8#8] ∧ encode .txa = [0x8A#8] ∧
      encode .tya = [0x98#8] ∧ encode .tsx = [0xBA#8] ∧ encode .txs = [0x9A#8]) ∧
    exec .tax s = .next { s with x := s.a, p := { s.p with n := s.a.msb, z := s.a == 0#8 } } ∧
    exec .tay s = .next { s with y := s.a, p := { s.p with n := s.a.msb, z := s.a == 0#8 } } ∧
    exec .txa s = .next { s with a := s.x, p := { s.p with n := s.x.msb, z := s.x == 0#8 } } ∧
    exec .tya s = .next { s with a := s.y, p := { s.p with n := s.y.msb, z := s.y == 0#8 } } ∧
    exec .tsx s = .next { s with x := s.sp, p := { s.p with n := s.sp.msb, z := s.sp == 0#8 } } ∧
    exec .txs s = .next { s with sp := s.x }

/-- With D = 0, ADC adds operand and carry to A and sets N, V, Z and C, in every form. For each form of ADC,
with its op code, and D = 0: with t = A + M + C, A becomes t mod 256, C is t >= 256, V is bit 7 of (A xor r)
and (M xor r), N and Z are of the result; everything else is unchanged. (R180.) -/
def Obligations.AdcBinary : Prop :=
  ∀ (b : Byte) (w : Addr) (s : State), s.p.d = false → ∀ f ∈ adcForms b w s,
    let t := s.a.toNat + f.2.2.toNat + s.p.c.toNat
    let r : Byte := BitVec.ofNat 8 t
    (encode f.2.1).head? = some f.1 ∧
      exec f.2.1 s = .next { s with
        a := r
        p := { s.p with n := r.msb, v := ((s.a ^^^ r) &&& (f.2.2 ^^^ r)).msb
                        z := r == 0#8, c := decide (256 ≤ t) } }

/-- With D = 0, SBC subtracts operand and borrow from A and sets N, V, Z and C, in every form. For each form of
SBC, with its op code, and D = 0: with t = A + (255 - M) + C, A becomes t mod 256, C is t >= 256, V is bit 7
of (A xor M) and (A xor r), N and Z are of the result; everything else is unchanged. (R181.) -/
def Obligations.SbcBinary : Prop :=
  ∀ (b : Byte) (w : Addr) (s : State), s.p.d = false → ∀ f ∈ sbcForms b w s,
    let t := s.a.toNat + (255 - f.2.2.toNat) + s.p.c.toNat
    let r : Byte := BitVec.ofNat 8 t
    (encode f.2.1).head? = some f.1 ∧
      exec f.2.1 s = .next { s with
        a := r
        p := { s.p with n := r.msb, v := ((s.a ^^^ f.2.2) &&& (s.a ^^^ r)).msb
                        z := r == 0#8, c := decide (256 ≤ t) } }

/-- After a binary ADC, C is the unsigned overflow and V the signed overflow of the exact sum. For each form of
ADC with D = 0, exec answers a state in which A plus 256 times C is the exact unsigned sum, and V says
exactly whether the exact signed sum of A, the operand and the carry is outside -128 to 127. (R180, R195.) -/
def Obligations.AdcCarryAndOverflowAreExact : Prop :=
  ∀ (b : Byte) (w : Addr) (s : State), s.p.d = false → ∀ f ∈ adcForms b w s, ∃ t, exec f.2.1 s = .next t ∧
    256 * t.p.c.toNat + t.a.toNat = s.a.toNat + f.2.2.toNat + s.p.c.toNat ∧
    (t.p.v = true ↔ s.a.toInt + f.2.2.toInt + s.p.c.toNat < -128 ∨
      127 < s.a.toInt + f.2.2.toInt + s.p.c.toNat)

/-- After a binary SBC, C is 1 exactly when there is no borrow and V is the signed overflow. For each form of
SBC with D = 0, with borrow = 1 - C: A minus the operand minus the borrow equals the new A minus 256 if and
only if C ends 0, and the new A itself if C ends 1; V says exactly whether the exact signed difference is
outside -128 to 127. (R181, R195.) -/
def Obligations.SbcBorrowAndOverflowAreExact : Prop :=
  ∀ (b : Byte) (w : Addr) (s : State), s.p.d = false → ∀ f ∈ sbcForms b w s, ∃ t, exec f.2.1 s = .next t ∧
    (t.a.toNat : Int) - 256 * (1 - t.p.c.toNat) = s.a.toNat - f.2.2.toNat - (1 - s.p.c.toNat) ∧
    (t.p.v = true ↔ s.a.toInt - f.2.2.toInt - (1 - s.p.c.toNat) < -128 ∨
      127 < s.a.toInt - f.2.2.toInt - (1 - s.p.c.toNat))

/-- With D = 0, SBC of a byte is ADC of its complement, in result and all four flags. For every byte m and every
state with D = 0, SBC immediate m and ADC immediate 255 - m give the same next state. (R181, R195.) -/
def Obligations.SbcIsAdcOfTheComplement : Prop :=
  ∀ (m : Byte) (s : State), s.p.d = false →
    exec (.sbcImm m) s = exec (.adcImm (255#8 - m)) s

/-- With D = 1 and valid BCD operands, ADC adds the decimal numbers, with a decimal carry. For each form of ADC
with D = 1 and both operands valid BCD: the result is valid BCD, and its value plus 100 times C is the sum
of the two decimal values and the old carry; N and Z are of the result byte; V is any value (a draw); A, N,
V, Z, C and the count of draws are all that changes. (R16, R182, R195.) -/
def Obligations.DecimalAdcAddsDecimalNumbers : Prop :=
  ∀ (b : Byte) (w : Addr) (s : State), s.p.d = true → ∀ f ∈ adcForms b w s,
    validBcd s.a = true → validBcd f.2.2 = true →
    ∃ t, exec f.2.1 s = .next t ∧
      validBcd t.a = true ∧
      100 * t.p.c.toNat + decimalValue t.a =
        decimalValue s.a + decimalValue f.2.2 + s.p.c.toNat ∧
      t = { s with
        a := t.a, draws := s.draws + 1
        p := { s.p with n := t.a.msb, v := t.p.v, z := t.a == 0#8, c := t.p.c } }

/-- With D = 1 and valid BCD operands, SBC subtracts the decimal numbers, with a decimal borrow. For each form
of SBC with D = 1 and both operands valid BCD: the result is valid BCD, and its value minus 100 if C ends 0
is the difference of the two decimal values less the borrow 1 - C; N and Z are of the result byte; V is any
value (a draw); A, N, V, Z, C and the count of draws are all that changes. (R16, R183, R195.) -/
def Obligations.DecimalSbcSubtractsDecimalNumbers : Prop :=
  ∀ (b : Byte) (w : Addr) (s : State), s.p.d = true → ∀ f ∈ sbcForms b w s,
    validBcd s.a = true → validBcd f.2.2 = true →
    ∃ t, exec f.2.1 s = .next t ∧
      validBcd t.a = true ∧
      (decimalValue t.a : Int) - 100 * (1 - t.p.c.toNat) =
        decimalValue s.a - decimalValue f.2.2 - (1 - s.p.c.toNat) ∧
      t = { s with
        a := t.a, draws := s.draws + 1
        p := { s.p with n := t.a.msb, v := t.p.v, z := t.a == 0#8, c := t.p.c } }

/-- On valid BCD operands, decimal ADC and SBC give the result and carry of the digit-correcting algorithms. The
algorithms that R182 and R183 give for any operands agree, in result byte and carry, with decimal ADC and
SBC immediate whenever both operands are valid BCD. (R182, R183.) -/
def Obligations.DecimalAgreesWithNibbleAlgorithms : Prop :=
  ∀ (m : Byte) (s : State), s.p.d = true → validBcd s.a = true → validBcd m = true →
    (∃ t, exec (.adcImm m) s = .next t ∧ (t.a, t.p.c) = nibbleAdd s.a m s.p.c) ∧
    ∃ t, exec (.sbcImm m) s = .next t ∧ (t.a, t.p.c) = nibbleSub s.a m s.p.c

/-- With D = 1 and an operand that is not valid BCD, ADC and SBC complete and change A, N, V, Z, C alone. For
each form of ADC and SBC with D = 1, where A or the operand is not valid BCD: exec answers a next state that
differs in A, N, V, Z, C and the count of draws alone. The values are draws (D8; log 8). (R182, R183.) -/
def Obligations.DecimalOnInvalidBcdTouchesOnlyAAndFlags : Prop :=
  ∀ (b : Byte) (w : Addr) (s : State), s.p.d = true → ∀ f ∈ adcForms b w s ++ sbcForms b w s,
    validBcd s.a = false ∨ validBcd f.2.2 = false →
    ∃ (r : Byte) (n v z c : Bool), exec f.2.1 s = .next { s with
      a := r, p := { s.p with n := n, v := v, z := z, c := c }, draws := s.draws + 1 }

/-- CMP, CPX and CPY set C, Z and N from the register and the operand and change nothing else. For each form of
CMP, CPX and CPY, with its op code: C is register >= operand unsigned, Z is equality, N is bit 7 of the
8-bit difference; V, D, I, the registers and memory are unchanged. (R184, R185, R186.) -/
def Obligations.ComparesSetNZC : Prop :=
  ∀ (b : Byte) (w : Addr) (s : State), ∀ f ∈
     [(0xC1#8, Instr.cmpIzx b, s.a, s.read (s.eaIzx b)), (0xC5#8, .cmpZpg b, s.a, s.read (s.eaZpg b)),
      (0xC9#8, .cmpImm b, s.a, b), (0xCD#8, .cmpAbs w, s.a, s.read (s.eaAbs w)),
      (0xD1#8, .cmpIzy b, s.a, s.read (s.eaIzy b)), (0xD2#8, .cmpIzp b, s.a, s.read (s.eaIzp b)),
      (0xD5#8, .cmpZpx b, s.a, s.read (s.eaZpx b)), (0xD9#8, .cmpAby w, s.a, s.read (s.eaAby w)),
      (0xDD#8, .cmpAbx w, s.a, s.read (s.eaAbx w))] ++
     [(0xE0#8, Instr.cpxImm b, s.x, b), (0xE4#8, .cpxZpg b, s.x, s.read (s.eaZpg b)),
      (0xEC#8, .cpxAbs w, s.x, s.read (s.eaAbs w))] ++
     [(0xC0#8, Instr.cpyImm b, s.y, b), (0xC4#8, .cpyZpg b, s.y, s.read (s.eaZpg b)),
      (0xCC#8, .cpyAbs w, s.y, s.read (s.eaAbs w))],
    (encode f.2.1).head? = some f.1 ∧
      exec f.2.1 s = .next { s with
        p := { s.p with n := (f.2.2.1 - f.2.2.2).msb, z := decide (f.2.2.1 = f.2.2.2)
                        c := decide (f.2.2.2.toNat ≤ f.2.2.1.toNat) } }

/-- CMP sets N, Z and C as a binary SBC with C = 1 of the same operand would. With D = 0 and C = 1, SBC
immediate and CMP immediate of the same byte leave the same N, Z and C; CMP leaves A and V alone. (R195.) -/
def Obligations.CompareIsSubtractionWithoutBorrow : Prop :=
  ∀ (m : Byte) (s t u : State), s.p.d = false → s.p.c = true →
    exec (.cmpImm m) s = .next t → exec (.sbcImm m) s = .next u →
    t.p.n = u.p.n ∧ t.p.z = u.p.z ∧ t.p.c = u.p.c ∧ t.p.v = s.p.v ∧ t.a = s.a

/-- INC and DEC step the byte at the effective address and set N and Z from the new byte. For each form of INC
and DEC, with its op code: the byte at the effective address becomes itself plus or minus 1 modulo 256,
every other byte of memory reads as before, N and Z are of the new byte, and everything else is unchanged, C
and V among it. Where the address is not RAM nothing is stored: the model's choice for mem_map, as D25
suggests (log 3). (R187, R188.) -/
def Obligations.IncDecMemory : Prop :=
  ∀ (b : Byte) (w : Addr) (s : State), ∀ f ∈
     [(0xE6#8, Instr.incZpg b, s.eaZpg b, s.read (s.eaZpg b) + 1),
      (0xEE#8, .incAbs w, s.eaAbs w, s.read (s.eaAbs w) + 1),
      (0xF6#8, .incZpx b, s.eaZpx b, s.read (s.eaZpx b) + 1),
      (0xFE#8, .incAbx w, s.eaAbx w, s.read (s.eaAbx w) + 1)] ++
     [(0xC6#8, Instr.decZpg b, s.eaZpg b, s.read (s.eaZpg b) - 1),
      (0xCE#8, .decAbs w, s.eaAbs w, s.read (s.eaAbs w) - 1),
      (0xD6#8, .decZpx b, s.eaZpx b, s.read (s.eaZpx b) - 1),
      (0xDE#8, .decAbx w, s.eaAbx w, s.read (s.eaAbx w) - 1)],
    (encode f.2.1).head? = some f.1 ∧
      ∃ t, exec f.2.1 s = .next t ∧ t.read f.2.2.1 = afterStore s f.2.2.1 f.2.2.2 ∧
        (∀ x, x ≠ f.2.2.1 → t.read x = s.read x) ∧
        t = { s with mem := t.mem, p := { s.p with n := f.2.2.2.msb, z := f.2.2.2 == 0#8 } }

/-- INA, DEA, INX, INY, DEX and DEY step a register modulo 256 and set N and Z. Each, with its op code, answers
the state with the register plus or minus 1 modulo 256, N and Z of the new value, and everything else
unchanged: C, V and memory among it, whatever D is. (R189, R190, R191, R192, R193, R194.) -/
def Obligations.IncDecRegisters : Prop :=
  ∀ s : State,
    (encode .ina = [0x1A#8] ∧
      encode .dea = [0x3A#8] ∧
      encode .inx = [0xE8#8] ∧
      encode .iny = [0xC8#8] ∧
      encode .dex = [0xCA#8] ∧
      encode .dey = [0x88#8]) ∧
    exec .ina s = .next { s with
      a := s.a + 1, p := { s.p with n := (s.a + 1).msb, z := s.a + 1 == 0#8 } } ∧
    exec .dea s = .next { s with
      a := s.a - 1, p := { s.p with n := (s.a - 1).msb, z := s.a - 1 == 0#8 } } ∧
    exec .inx s = .next { s with
      x := s.x + 1, p := { s.p with n := (s.x + 1).msb, z := s.x + 1 == 0#8 } } ∧
    exec .iny s = .next { s with
      y := s.y + 1, p := { s.p with n := (s.y + 1).msb, z := s.y + 1 == 0#8 } } ∧
    exec .dex s = .next { s with
      x := s.x - 1, p := { s.p with n := (s.x - 1).msb, z := s.x - 1 == 0#8 } } ∧
    exec .dey s = .next { s with
      y := s.y - 1, p := { s.p with n := (s.y - 1).msb, z := s.y - 1 == 0#8 } }

/-- AND, ORA and EOR combine A with the operand bit by bit and set N and Z, in every form. For each form of AND,
ORA and EOR, with its op code: A becomes the bitwise and, or, or exclusive or of A and the operand, N and Z
are of the result, and everything else is unchanged. (R200, R201, R202.) -/
def Obligations.LogicalOperationsOnA : Prop :=
  ∀ (b : Byte) (w : Addr) (s : State), ∀ f ∈
     [(0x21#8, Instr.andIzx b, s.a &&& s.read (s.eaIzx b)),
      (0x25#8, .andZpg b, s.a &&& s.read (s.eaZpg b)), (0x29#8, .andImm b, s.a &&& b),
      (0x2D#8, .andAbs w, s.a &&& s.read (s.eaAbs w)), (0x31#8, .andIzy b, s.a &&& s.read (s.eaIzy b)),
      (0x32#8, .andIzp b, s.a &&& s.read (s.eaIzp b)), (0x35#8, .andZpx b, s.a &&& s.read (s.eaZpx b)),
      (0x39#8, .andAby w, s.a &&& s.read (s.eaAby w)), (0x3D#8, .andAbx w, s.a &&& s.read (s.eaAbx w))] ++
     [(0x01#8, Instr.oraIzx b, s.a ||| s.read (s.eaIzx b)),
      (0x05#8, .oraZpg b, s.a ||| s.read (s.eaZpg b)), (0x09#8, .oraImm b, s.a ||| b),
      (0x0D#8, .oraAbs w, s.a ||| s.read (s.eaAbs w)), (0x11#8, .oraIzy b, s.a ||| s.read (s.eaIzy b)),
      (0x12#8, .oraIzp b, s.a ||| s.read (s.eaIzp b)), (0x15#8, .oraZpx b, s.a ||| s.read (s.eaZpx b)),
      (0x19#8, .oraAby w, s.a ||| s.read (s.eaAby w)), (0x1D#8, .oraAbx w, s.a ||| s.read (s.eaAbx w))] ++
     [(0x41#8, Instr.eorIzx b, s.a ^^^ s.read (s.eaIzx b)),
      (0x45#8, .eorZpg b, s.a ^^^ s.read (s.eaZpg b)), (0x49#8, .eorImm b, s.a ^^^ b),
      (0x4D#8, .eorAbs w, s.a ^^^ s.read (s.eaAbs w)), (0x51#8, .eorIzy b, s.a ^^^ s.read (s.eaIzy b)),
      (0x52#8, .eorIzp b, s.a ^^^ s.read (s.eaIzp b)), (0x55#8, .eorZpx b, s.a ^^^ s.read (s.eaZpx b)),
      (0x59#8, .eorAby w, s.a ^^^ s.read (s.eaAby w)), (0x5D#8, .eorAbx w, s.a ^^^ s.read (s.eaAbx w))],
    (encode f.2.1).head? = some f.1 ∧
      exec f.2.1 s = .next { s with a := f.2.2, p := { s.p with n := f.2.2.msb, z := f.2.2 == 0#8 } }

/-- BIT sets Z from A and the operand; on memory it copies bits 7 and 6 to N and V, immediate it does not. For
each memory form of BIT, with its op code: Z is whether A and M is zero, N is M[7], V is M[6]; for the
immediate form Z alone is written. A, memory, C, D, I and everything else are unchanged. (R203.) -/
def Obligations.BitTestsOperand : Prop :=
  ∀ (b : Byte) (w : Addr) (s : State),
    (∀ f ∈
     [(0x24#8, Instr.bitZpg b, s.read (s.eaZpg b)), (0x2C#8, .bitAbs w, s.read (s.eaAbs w)),
      (0x34#8, .bitZpx b, s.read (s.eaZpx b)), (0x3C#8, .bitAbx w, s.read (s.eaAbx w))],
      (encode f.2.1).head? = some f.1 ∧
        exec f.2.1 s = .next { s with
          p := { s.p with z := s.a &&& f.2.2 == 0#8, n := f.2.2.getLsbD 7, v := f.2.2.getLsbD 6 } }) ∧
    (encode (.bitImm b)).head? = some 0x89#8 ∧
      exec (.bitImm b) s = .next { s with p := { s.p with z := s.a &&& b == 0#8 } }

/-- TSB and TRB test the old byte with A in Z alone, then set or clear the bits of A in memory. For each form of
TSB and TRB, with its op code: the byte at the effective address becomes M or A, respectively M and not A; Z
is whether A and the old M is zero; every other byte of memory reads as before; everything else is
unchanged. Where the address is not RAM nothing is stored: the model's choice for mem_map, as D25 suggests
(log 3). (R204, R205.) -/
def Obligations.TestAndSetResetBits : Prop :=
  ∀ (b : Byte) (w : Addr) (s : State), ∀ f ∈
     [(0x04#8, Instr.tsbZpg b, s.eaZpg b, s.read (s.eaZpg b) ||| s.a),
      (0x0C#8, .tsbAbs w, s.eaAbs w, s.read (s.eaAbs w) ||| s.a)] ++
     [(0x14#8, Instr.trbZpg b, s.eaZpg b, s.read (s.eaZpg b) &&& ~~~s.a),
      (0x1C#8, .trbAbs w, s.eaAbs w, s.read (s.eaAbs w) &&& ~~~s.a)],
    (encode f.2.1).head? = some f.1 ∧
      ∃ t, exec f.2.1 s = .next t ∧ t.read f.2.2.1 = afterStore s f.2.2.1 f.2.2.2 ∧
        (∀ x, x ≠ f.2.2.1 → t.read x = s.read x) ∧
        t = { s with mem := t.mem, p := { s.p with z := s.a &&& s.read f.2.2.1 == 0#8 } }

/-- ASL, LSR, ROL and ROR of A shift one place, with the bit that leaves going to C. For the accumulator form of
each, with its op code: A becomes 2A mod 256, A div 2, 2A + C mod 256, or A div 2 + 128 C; C becomes the old
bit 7 or bit 0; N and Z are of the result; everything else, memory included, is unchanged. (R206, R207,
R208, R209, R210.) -/
def Obligations.ShiftsOfA : Prop :=
  ∀ s : State, ∀ f ∈
     [(0x0A#8, Instr.aslAcc, (BitVec.ofNat 8 (2 * s.a.toNat) : Byte), s.a.getLsbD 7),
      (0x4A#8, .lsrAcc, BitVec.ofNat 8 (s.a.toNat / 2), s.a.getLsbD 0),
      (0x2A#8, .rolAcc, BitVec.ofNat 8 (2 * s.a.toNat + s.p.c.toNat), s.a.getLsbD 7),
      (0x6A#8, .rorAcc, BitVec.ofNat 8 (s.a.toNat / 2 + 128 * s.p.c.toNat), s.a.getLsbD 0)],
    encode f.2.1 = [f.1] ∧
      exec f.2.1 s = .next { s with
        a := f.2.2.1
        p := { s.p with n := f.2.2.1.msb, z := f.2.2.1 == 0#8, c := f.2.2.2 } }

/-- ASL, LSR, ROL and ROR of memory shift the byte at the effective address one place. For each memory form,
with its op code: the byte at the effective address is shifted as the accumulator form shifts A; C is the
bit that leaves, N and Z are of the result; every other byte of memory reads as before; everything else is
unchanged, A among it. Where the address is not RAM nothing is stored: the model's choice for mem_map, as
D25 suggests (log 3). (R206, R207, R208, R209, R210.) -/
def Obligations.ShiftsOfMemory : Prop :=
  ∀ (b : Byte) (w : Addr) (s : State), ∀ f ∈
     [
      (0x06#8, Instr.aslZpg b, s.eaZpg b, BitVec.ofNat 8 (2 * (s.read (s.eaZpg b)).toNat), (s.read (s.eaZpg b)).getLsbD 7),
      (0x0E#8, .aslAbs w, s.eaAbs w, BitVec.ofNat 8 (2 * (s.read (s.eaAbs w)).toNat), (s.read (s.eaAbs w)).getLsbD 7),
      (0x16#8, .aslZpx b, s.eaZpx b, BitVec.ofNat 8 (2 * (s.read (s.eaZpx b)).toNat), (s.read (s.eaZpx b)).getLsbD 7),
      (0x1E#8, .aslAbx w, s.eaAbx w, BitVec.ofNat 8 (2 * (s.read (s.eaAbx w)).toNat), (s.read (s.eaAbx w)).getLsbD 7)] ++
     [
      (0x46#8, Instr.lsrZpg b, s.eaZpg b, BitVec.ofNat 8 ((s.read (s.eaZpg b)).toNat / 2), (s.read (s.eaZpg b)).getLsbD 0),
      (0x4E#8, .lsrAbs w, s.eaAbs w, BitVec.ofNat 8 ((s.read (s.eaAbs w)).toNat / 2), (s.read (s.eaAbs w)).getLsbD 0),
      (0x56#8, .lsrZpx b, s.eaZpx b, BitVec.ofNat 8 ((s.read (s.eaZpx b)).toNat / 2), (s.read (s.eaZpx b)).getLsbD 0),
      (0x5E#8, .lsrAbx w, s.eaAbx w, BitVec.ofNat 8 ((s.read (s.eaAbx w)).toNat / 2), (s.read (s.eaAbx w)).getLsbD 0)] ++
     [
      (0x26#8, Instr.rolZpg b, s.eaZpg b, BitVec.ofNat 8 (2 * (s.read (s.eaZpg b)).toNat + s.p.c.toNat), (s.read (s.eaZpg b)).getLsbD 7),
      (0x2E#8, .rolAbs w, s.eaAbs w, BitVec.ofNat 8 (2 * (s.read (s.eaAbs w)).toNat + s.p.c.toNat), (s.read (s.eaAbs w)).getLsbD 7),
      (0x36#8, .rolZpx b, s.eaZpx b, BitVec.ofNat 8 (2 * (s.read (s.eaZpx b)).toNat + s.p.c.toNat), (s.read (s.eaZpx b)).getLsbD 7),
      (0x3E#8, .rolAbx w, s.eaAbx w, BitVec.ofNat 8 (2 * (s.read (s.eaAbx w)).toNat + s.p.c.toNat), (s.read (s.eaAbx w)).getLsbD 7)] ++
     [
      (0x66#8, Instr.rorZpg b, s.eaZpg b, BitVec.ofNat 8 ((s.read (s.eaZpg b)).toNat / 2 + 128 * s.p.c.toNat), (s.read (s.eaZpg b)).getLsbD 0),
      (0x6E#8, .rorAbs w, s.eaAbs w, BitVec.ofNat 8 ((s.read (s.eaAbs w)).toNat / 2 + 128 * s.p.c.toNat), (s.read (s.eaAbs w)).getLsbD 0),
      (0x76#8, .rorZpx b, s.eaZpx b, BitVec.ofNat 8 ((s.read (s.eaZpx b)).toNat / 2 + 128 * s.p.c.toNat), (s.read (s.eaZpx b)).getLsbD 0),
      (0x7E#8, .rorAbx w, s.eaAbx w, BitVec.ofNat 8 ((s.read (s.eaAbx w)).toNat / 2 + 128 * s.p.c.toNat), (s.read (s.eaAbx w)).getLsbD 0)],
    (encode f.2.1).head? = some f.1 ∧
      ∃ t, exec f.2.1 s = .next t ∧ t.read f.2.2.1 = afterStore s f.2.2.1 f.2.2.2.1 ∧
        (∀ x, x ≠ f.2.2.1 → t.read x = s.read x) ∧
        t = { s with
          mem := t.mem
          p := { s.p with n := f.2.2.2.1.msb, z := f.2.2.2.1 == 0#8, c := f.2.2.2.2 } }

/-- ROL and ROR of A undo each other in A and C: they rotate nine bits through the carry. ROR after ROL, and ROL
after ROR, give back A and C and leave everything but N and Z as it was. (R206, R209, R210.) -/
def Obligations.RotatesUndoEachOther : Prop :=
  ∀ s t u : State,
    (exec .rolAcc s = .next t → exec .rorAcc t = .next u →
      u = { s with p := { s.p with n := u.p.n, z := u.p.z } }) ∧
    (exec .rorAcc s = .next t → exec .rolAcc t = .next u →
      u = { s with p := { s.p with n := u.p.n, z := u.p.z } })

/-- Each branch goes to the next instruction plus the signed offset if its condition holds, else on. For each of
the nine branches, with its op code: if the flag it tests has the value it tests for (always, for BRA), pc
becomes pc plus the signed value of the offset byte modulo 65536, where pc is already at the next
instruction; else pc is left there. Nothing else changes. (R140, R220, R221, R222, R223, R224, R225, R226,
R227, R228, R229.) -/
def Obligations.BranchesGoToOffsetFromNextInstruction : Prop :=
  ∀ (b : Byte) (s : State), ∀ f ∈
     [(0x90#8, Instr.bcc b, !s.p.c), (0xB0#8, .bcs b, s.p.c), (0xF0#8, .beq b, s.p.z),
      (0xD0#8, .bne b, !s.p.z), (0x30#8, .bmi b, s.p.n), (0x10#8, .bpl b, !s.p.n),
      (0x50#8, .bvc b, !s.p.v), (0x70#8, .bvs b, s.p.v), (0x80#8, .bra b, true)],
    encode f.2.1 = [f.1, b] ∧
      exec f.2.1 s = .next { s with
        pc := if f.2.2 then BitVec.ofInt 16 (s.pc.toNat + b.toInt) else s.pc }

/-- JMP goes to its operand, to the pointer at its operand, or to the pointer at its operand plus X. JMP ABS,
IND and IAX, with their op codes, set pc and nothing else: to w; to the 16-bit value whose low byte is at w
and high byte at w + 1, the increment carrying into the high byte of the address; or to that at w + X. Sums
are modulo 65536. (R230.) -/
def Obligations.JumpTargets : Prop :=
  ∀ (w : Addr) (s : State),
    (encode (.jmpAbs w)).head? = some 0x4C#8 ∧ (encode (.jmpInd w)).head? = some 0x6C#8 ∧
      (encode (.jmpIax w)).head? = some 0x7C#8 ∧
    exec (.jmpAbs w) s = .next { s with pc := w } ∧
    exec (.jmpInd w) s = .next { s with
      pc := joinBytes (s.readAs .pointer (BitVec.ofNat 16 (w.toNat + 1))) (s.readAs .pointer w) } ∧
    exec (.jmpIax w) s = .next { s with
      pc := joinBytes (s.readAs .pointer (BitVec.ofNat 16 (w.toNat + s.x.toNat + 1)))
        (s.readAs .pointer (BitVec.ofNat 16 (w.toNat + s.x.toNat))) }

/-- JSR pushes the address of its last byte and jumps; RTS pulls an address and goes to it plus one. JSR, op
code 20, with pc at the next instruction: the bytes of pc - 1 are stored at 0x0100 + S (high) and at the
next lower stack address (low), S falls by 2 modulo 256, pc becomes the operand; every other byte of memory
and everything else is unchanged. RTS, op code 60: pc becomes the 16-bit value at the two next higher stack
addresses (low byte first) plus 1 modulo 65536, S rises by 2 modulo 256, and everything else, memory
included, is unchanged. Where the address is not RAM nothing is stored: the model's choice for mem_map, as
D25 suggests (log 3). (R231, R232.) -/
def Obligations.JsrPushesAndRtsPullsTheReturnAddress : Prop :=
  ∀ (w : Addr) (s : State),
    ((encode (.jsr w)).head? = some 0x20#8 ∧
      ∃ t, exec (.jsr w) s = .next t ∧
        t.read (stackAddr s.sp) = afterStore s (stackAddr s.sp) (highByte (s.pc - 1)) ∧
        t.read (stackAddr (s.sp - 1)) = afterStore s (stackAddr (s.sp - 1)) (lowByte (s.pc - 1)) ∧
        (∀ x, x ≠ stackAddr s.sp → x ≠ stackAddr (s.sp - 1) → t.read x = s.read x) ∧
        t = { s with mem := t.mem, sp := s.sp - 2, pc := w }) ∧
    encode .rts = [0x60#8] ∧
    exec .rts s = .next { s with
      sp := s.sp + 2
      pc := joinBytes (s.readAs .stack (stackAddr (s.sp + 2)))
        (s.readAs .stack (stackAddr (s.sp + 1))) + 1 }

/-- PHA, PHX, PHY and PHP store A, X, Y or the image of P at 0x0100 + S and decrement S. Each push, with its op
code, stores its byte at 0x0100 + S and lowers S by 1 modulo 256; PHP stores N V 1 1 D I Z C from bit 7 to
bit 0. Every other byte of memory reads as before and everything else is unchanged. Where the address is not
RAM nothing is stored: the model's choice for mem_map, as D25 suggests (log 3). (R12, R31, R240, R241, R242,
R243.) -/
def Obligations.PushesStoreBelowTheStack : Prop :=
  ∀ s : State, ∀ f ∈ [(0x48#8, Instr.pha, s.a), (0xDA#8, .phx, s.x), (0x5A#8, .phy, s.y),
      (0x08#8, .php, statusByte true s.p)],
    encode f.2.1 = [f.1] ∧
      ∃ t, exec f.2.1 s = .next t ∧ t.read (stackAddr s.sp) = afterStore s (stackAddr s.sp) f.2.2 ∧
        (∀ x, x ≠ stackAddr s.sp → t.read x = s.read x) ∧
        t = { s with mem := t.mem, sp := s.sp - 1 }

/-- PLA, PLX and PLY load the byte above S and set N and Z; PLP loads the six flags from it. Each pull, with its
op code, raises S by 1 modulo 256 and reads 0x0100 + S: PLA, PLX and PLY load it with N and Z; PLP loads N V
D I Z C from its bits 7 6 3 2 1 0. Everything else, memory included, is unchanged. (R12, R32, R244, R245,
R246, R247.) -/
def Obligations.PullsLoadFromTheStack : Prop :=
  ∀ s : State, let v := s.readAs .stack (stackAddr (s.sp + 1))
    (encode .pla = [0x68#8] ∧ encode .plx = [0xFA#8] ∧ encode .ply = [0x7A#8] ∧
      encode .plp = [0x28#8]) ∧
    exec .pla s = .next { s with a := v, sp := s.sp + 1, p := { s.p with n := v.msb, z := v == 0#8 } } ∧
    exec .plx s = .next { s with x := v, sp := s.sp + 1, p := { s.p with n := v.msb, z := v == 0#8 } } ∧
    exec .ply s = .next { s with y := v, sp := s.sp + 1, p := { s.p with n := v.msb, z := v == 0#8 } } ∧
    exec .plp s = .next { s with sp := s.sp + 1, p := flagsFrom v }

/-- CLC, SEC, CLD, SED, CLI, SEI and CLV force their flag and change nothing else. Each, with its op code,
answers the state with its one flag at the value its name says and everything else unchanged. (R248, R249,
R250, R251, R252, R253, R254.) -/
def Obligations.FlagInstructionsForceTheirFlag : Prop :=
  ∀ s : State,
    (encode .clc = [0x18#8] ∧
      encode .sec = [0x38#8] ∧
      encode .cld = [0xD8#8] ∧
      encode .sed = [0xF8#8] ∧
      encode .cli = [0x58#8] ∧
      encode .sei = [0x78#8] ∧
      encode .clv = [0xB8#8]) ∧
    exec .clc s = .next { s with p := { s.p with c := false } } ∧
    exec .sec s = .next { s with p := { s.p with c := true } } ∧
    exec .cld s = .next { s with p := { s.p with d := false } } ∧
    exec .sed s = .next { s with p := { s.p with d := true } } ∧
    exec .cli s = .next { s with p := { s.p with i := false } } ∧
    exec .sei s = .next { s with p := { s.p with i := true } } ∧
    exec .clv s = .next { s with p := { s.p with v := false } }

/-- NOP and the 78 reserved op codes change nothing, and are one, two or three bytes long. For NOP and the 64
one-byte, 11 two-byte and 3 three-byte reserved op codes, with any skipped bytes: exec answers the same
state (pc is already past the instruction), and the encoding has the length given. Each encoding begins with
the op code. (R112, R255, R258, R259, R260.) -/
def Obligations.NopAndReservedOpCodesChangeNothing : Prop :=
  ∀ (b : Byte) (w : Addr) (s : State),
    (∀ f ∈
     [(0x03#8, Instr.rsv03), (0x07#8, .rsv07), (0x0B#8, .rsv0b), (0x0F#8, .rsv0f), (0x13#8, .rsv13),
      (0x17#8, .rsv17), (0x1B#8, .rsv1b), (0x1F#8, .rsv1f), (0x23#8, .rsv23), (0x27#8, .rsv27),
      (0x2B#8, .rsv2b), (0x2F#8, .rsv2f), (0x33#8, .rsv33), (0x37#8, .rsv37), (0x3B#8, .rsv3b),
      (0x3F#8, .rsv3f), (0x43#8, .rsv43), (0x47#8, .rsv47), (0x4B#8, .rsv4b), (0x4F#8, .rsv4f),
      (0x53#8, .rsv53), (0x57#8, .rsv57), (0x5B#8, .rsv5b), (0x5F#8, .rsv5f), (0x63#8, .rsv63),
      (0x67#8, .rsv67), (0x6B#8, .rsv6b), (0x6F#8, .rsv6f), (0x73#8, .rsv73), (0x77#8, .rsv77),
      (0x7B#8, .rsv7b), (0x7F#8, .rsv7f), (0x83#8, .rsv83), (0x87#8, .rsv87), (0x8B#8, .rsv8b),
      (0x8F#8, .rsv8f), (0x93#8, .rsv93), (0x97#8, .rsv97), (0x9B#8, .rsv9b), (0x9F#8, .rsv9f),
      (0xA3#8, .rsva3), (0xA7#8, .rsva7), (0xAB#8, .rsvab), (0xAF#8, .rsvaf), (0xB3#8, .rsvb3),
      (0xB7#8, .rsvb7), (0xBB#8, .rsvbb), (0xBF#8, .rsvbf), (0xC3#8, .rsvc3), (0xC7#8, .rsvc7),
      (0xCB#8, .rsvcb), (0xCF#8, .rsvcf), (0xD3#8, .rsvd3), (0xD7#8, .rsvd7), (0xDB#8, .rsvdb),
      (0xDF#8, .rsvdf), (0xE3#8, .rsve3), (0xE7#8, .rsve7), (0xEA#8, .nop), (0xEB#8, .rsveb),
      (0xEF#8, .rsvef), (0xF3#8, .rsvf3), (0xF7#8, .rsvf7), (0xFB#8, .rsvfb), (0xFF#8, .rsvff)],
      encode f.2 = [f.1] ∧ exec f.2 s = .next s) ∧
    (∀ f ∈
     [(0x02#8, Instr.rsv02 b), (0x22#8, .rsv22 b), (0x42#8, .rsv42 b), (0x44#8, .rsv44 b),
      (0x54#8, .rsv54 b), (0x62#8, .rsv62 b), (0x82#8, .rsv82 b), (0xC2#8, .rsvc2 b), (0xD4#8, .rsvd4 b),
      (0xE2#8, .rsve2 b), (0xF4#8, .rsvf4 b)],
      encode f.2 = [f.1, b] ∧ exec f.2 s = .next s) ∧
    (∀ f ∈
     [(0x5C#8, Instr.rsv5c w), (0xDC#8, .rsvdc w), (0xFC#8, .rsvfc w)],
      encode f.2 = [f.1, lowByte w, highByte w] ∧ exec f.2 s = .next s)

/-- BRK pushes its address plus 2 and P with B = 1, sets I, clears D and goes through 0xFFFE. BRK, op code 00,
with pc at the byte after it: pc + 1 is pushed high byte first, then the status byte with B = 1 and the old
I and D; S falls by 3, I = 1, D = 0, pc from 0xFFFE/0xFFFF; every other byte of memory, A, X, Y, N, V, Z and
C and the map are unchanged. It does so whatever I is. Where the address is not RAM nothing is stored: the
model's choice for mem_map, as D25 suggests (log 3). Of the model's own fields, none changes (log 4, log 6,
log 15, log 19). (R256, R278, R279.) -/
def Obligations.BrkTakesTheSoftwareInterrupt : Prop :=
  ∀ s : State, encode .brk = [0x00#8] ∧
    ∃ t, exec .brk s = .next t ∧ EntryFrom s t (s.pc + 1) true 0xFFFE#16 ∧
      t.nmiPending = s.nmiPending ∧ t.iBefore = s.iBefore ∧ t.draws = s.draws ∧ t.steps = s.steps ∧
      t.env = s.env

/-- RTI pulls the six flags, then the address, low byte first, and adds nothing to it. RTI, op code 40: the
flags come from the byte at S + 1 in page one, pc from those at S + 2 (low) and S + 3 (high), S rises by 3
modulo 256; everything else, memory included, is unchanged. (R257.) -/
def Obligations.RtiRestoresFlagsAndAddress : Prop :=
  ∀ s : State, encode .rti = [0x40#8] ∧
    exec .rti s = .next { s with
      sp := s.sp + 3
      p := flagsFrom (s.readAs .stack (stackAddr (s.sp + 1)))
      pc := joinBytes (s.readAs .stack (stackAddr (s.sp + 3)))
        (s.readAs .stack (stackAddr (s.sp + 2))) }
end

