-- ==== Sys2Proof/Laws/Decode.lean ====
section
/-! SUPPORT. The laws of byte order and of decoding, each stated once: splitting and joining 16-bit values, what
`decode` answers by the op code's cell, and that fetching agrees with decoding the bytes at `pc`. -/

namespace Sys2Proof

/-- `hi : lo` is `256 * hi + lo` (R103). -/
theorem toNat_joinBytes (hi lo : Byte) : (joinBytes hi lo).toNat = 256 * hi.toNat + lo.toNat := by
  have h : (joinBytes hi lo).toNat = hi.toNat <<< 8 ||| lo.toNat := BitVec.toNat_append hi lo
  rw [h, Nat.shiftLeft_eq, Nat.mul_comm, Nat.two_pow_add_eq_or_of_lt lo.isLt]

theorem toNat_lowByte (w : Addr) : (lowByte w).toNat = w.toNat % 256 := by
  simp [lowByte]

theorem toNat_highByte (w : Addr) : (highByte w).toNat = w.toNat / 256 := by
  have := w.isLt
  simp [highByte, Nat.shiftRight_eq_div_pow]; omega

@[simp] theorem joinBytes_highByte_lowByte (w : Addr) : joinBytes (highByte w) (lowByte w) = w := by
  apply BitVec.eq_of_toNat_eq
  rw [toNat_joinBytes, toNat_lowByte, toNat_highByte]
  omega

@[simp] theorem lowByte_joinBytes (hi lo : Byte) : lowByte (joinBytes hi lo) = lo := by
  apply BitVec.eq_of_toNat_eq
  have := lo.isLt
  rw [toNat_lowByte, toNat_joinBytes]
  omega

@[simp] theorem highByte_joinBytes (hi lo : Byte) : highByte (joinBytes hi lo) = hi := by
  apply BitVec.eq_of_toNat_eq
  have := lo.isLt
  rw [toNat_highByte, toNat_joinBytes]
  omega

@[simp] theorem toNat_zext16 (b : Byte) : (zext16 b).toNat = b.toNat := by
  have := b.isLt
  simp [zext16]; omega

/-- What `decode` answers on a string that starts with `op`. -/
theorem decode_cons (op : Byte) (rest : List Byte) :
    decode (op :: rest) =
      match opcodeCell op, rest with
      | .one i, rest => .ok (i, rest)
      | .two f, b1 :: rest => .ok (f b1, rest)
      | .three f, b1 :: b2 :: rest => .ok (f (joinBytes b2 b1), rest)
      | .two _, [] => .error (.missingOperand op)
      | .three _, [] => .error (.missingOperand op)
      | .three _, [_] => .error (.missingOperand op) := rfl

namespace Machine

/-- The instruction fetched at `pc` is the one that the bytes there decode to, and the bytes left over are those
after its length. -/
theorem decode_bytesAtPc (s : State) :
    decode s.bytesAtPc = .ok (s.fetch, s.bytesAtPc.drop s.cellAtPc.length) := by
  unfold State.bytesAtPc State.fetch State.cellAtPc
  rw [decode_cons]
  cases opcodeCell (s.readAs .fetch s.pc) <;> rfl

end Machine

end Sys2Proof
end

