-- ==== Sys2Proof/Laws/Memory.lean ====
section
/-! SUPPORT. The laws of memory: a read after a write, for every list; the canonical form, kept by every
operation; and equality of canonical memories that read alike. -/

namespace Sys2Proof.Machine

@[simp] theorem Memory.read_nil (a : Nat) : Memory.read [] a = Memory.unlisted := rfl

theorem Memory.read_cons (k : Nat) (v : Byte) (m : Memory) (a : Nat) :
    Memory.read ((k, v) :: m) a = if k = a then v else Memory.read m a := rfl

/-! ### Reading after a write -/

theorem Memory.read_filter_same (m : Memory) (a : Nat) :
    Memory.read (m.filter fun cell => cell.1 != a) a = Memory.unlisted := by
  induction m with
  | nil => rfl
  | cons c m ih =>
    by_cases h : c.1 = a
    · simp [h, ih]
    · simp [h, ih, Memory.read]

theorem Memory.read_filter_ne (m : Memory) {a b : Nat} (hne : b ≠ a) :
    Memory.read (m.filter fun cell => cell.1 != a) b = Memory.read m b := by
  induction m with
  | nil => rfl
  | cons c m ih =>
    by_cases h : c.1 = a
    · simp [h, ih, Memory.read, Ne.symm hne]
    · simp [h, ih, Memory.read]

theorem Memory.read_insert_same (m : Memory) (a : Nat) (v : Byte)
    (h : ∀ c ∈ m, c.1 ≠ a) : Memory.read (Memory.insert m a v) a = v := by
  induction m with
  | nil => simp [Memory.insert, Memory.read]
  | cons c m ih =>
    have hc : c.1 ≠ a := h c (by simp)
    have hm := ih fun d hd => h d (by simp [hd])
    by_cases hlt : a < c.1 <;> simp [Memory.insert, Memory.read, hlt, hc, hm]

theorem Memory.read_insert_ne (m : Memory) {a b : Nat} (v : Byte) (hne : b ≠ a) :
    Memory.read (Memory.insert m a v) b = Memory.read m b := by
  induction m with
  | nil => simp [Memory.insert, Memory.read, Ne.symm hne]
  | cons c m ih =>
    by_cases hlt : a < c.1 <;> simp [Memory.insert, Memory.read, hlt, ih, Ne.symm hne]

/-- Writing a byte makes it what is read there, and leaves every other address as it was. -/
theorem Memory.read_write (m : Memory) (a b : Nat) (v : Byte) :
    Memory.read (Memory.write m a v) b = if b = a then v else Memory.read m b := by
  unfold Memory.write
  by_cases hb : b = a
  · subst hb
    by_cases hv : v = Memory.unlisted
    · simp [hv, Memory.read_filter_same]
    · simp only [hv, if_false, if_true]
      exact Memory.read_insert_same _ _ _ (by simp)
  · by_cases hv : v = Memory.unlisted
    · simp [hv, hb, Memory.read_filter_ne m hb]
    · simp [hv, hb, Memory.read_insert_ne _ v hb, Memory.read_filter_ne m hb]

/-! ### The canonical form -/

theorem Memory.risesFrom_mono {m : Memory} {low low' : Nat} (hle : low' ≤ low)
    (h : Memory.risesFrom low m = true) : Memory.risesFrom low' m = true := by
  cases m with
  | nil => rfl
  | cons c m =>
    simp only [Memory.risesFrom, Bool.and_eq_true, decide_eq_true_eq] at h ⊢
    exact ⟨⟨⟨by omega, h.1.1.2⟩, h.1.2⟩, h.2⟩

theorem Memory.risesFrom_filter {m : Memory} {low : Nat} (p : Host.Cell → Bool)
    (h : Memory.risesFrom low m = true) : Memory.risesFrom low (m.filter p) = true := by
  induction m generalizing low with
  | nil => rfl
  | cons c m ih =>
    simp only [Memory.risesFrom, Bool.and_eq_true, decide_eq_true_eq] at h
    obtain ⟨⟨⟨h1, h2⟩, h3⟩, h4⟩ := h
    by_cases hp : p c
    · simp [hp, Memory.risesFrom, h1, h2, ih h4]; simpa using h3
    · simpa [hp] using ih (Memory.risesFrom_mono (by omega) h4)

theorem Memory.risesFrom_insert {m : Memory} {low a : Nat} {v : Byte} (hlow : low ≤ a)
    (ha : a < 65536) (hv : v ≠ Memory.unlisted) (h : Memory.risesFrom low m = true)
    (hm : ∀ c ∈ m, c.1 ≠ a) : Memory.risesFrom low (Memory.insert m a v) = true := by
  induction m generalizing low with
  | nil => simp [Memory.insert, Memory.risesFrom, hlow, ha, hv]
  | cons c m ih =>
    have hc : c.1 ≠ a := hm c (by simp)
    simp only [Memory.risesFrom, Bool.and_eq_true, decide_eq_true_eq, bne_iff_ne] at h
    obtain ⟨⟨⟨h1, h2⟩, h3⟩, h4⟩ := h
    by_cases hlt : a < c.1
    · simp [Memory.insert, Memory.risesFrom, hlt, hlow, ha, hv, h2, h3, h4]
    · have := ih (low := c.1 + 1) (by omega) h4 fun d hd => hm d (by simp [hd])
      simp [Memory.insert, Memory.risesFrom, hlt, h1, h2, h3, this]

/-- A write at an address that exists keeps the canonical form. -/
theorem Memory.wf_write {m : Memory} {a : Nat} (v : Byte) (ha : a < 65536)
    (h : Memory.wf m = true) : Memory.wf (Memory.write m a v) = true := by
  have hf := Memory.risesFrom_filter (fun cell => cell.1 != a) h
  unfold Memory.write Memory.wf
  by_cases hv : v = Memory.unlisted
  · simpa [hv] using hf
  · simp only [hv, if_false]
    exact Memory.risesFrom_insert (Nat.zero_le a) ha hv hf (by simp)

/-! ### Writes through the memory map -/

theorem AreaKind.stores_iff (k : AreaKind) : k.stores = true ↔ k = .ram := by
  cases k <;> simp [AreaKind.stores]

/-- A write through the map (R69, D25): the byte at its address if that is RAM, every other address as before. -/
theorem MemMap.read_store (map : MemMap) (m : Memory) (a b : Addr) (v : Byte) :
    Memory.read (map.store m a v) b.toNat =
      if b = a ∧ map.kindAt a = .ram then v else Memory.read m b.toNat := by
  unfold MemMap.store
  cases map.kindAt a <;> simp [AreaKind.stores, Memory.read_write, BitVec.toNat_inj]

/-- A write through the map keeps the canonical form. -/
theorem MemMap.wf_store (map : MemMap) {m : Memory} (a : Addr) (v : Byte) (h : Memory.wf m = true) :
    Memory.wf (map.store m a v) = true := by
  unfold MemMap.store
  cases (map.kindAt a).stores
  · exact h
  · exact Memory.wf_write v a.isLt h

@[simp] theorem MemMap.kindAt_nil (a : Addr) : MemMap.kindAt [] a = .ram := rfl

theorem MemMap.kindAt_cons (r : Area) (map : MemMap) (a : Addr) :
    MemMap.kindAt (r :: map) a = bif r.has a then r.kind else MemMap.kindAt map a := rfl

/-- The memory with nothing listed has the canonical form. -/
theorem Memory.wf_nil : Memory.wf [] = true := rfl

theorem Memory.read_below {m : Memory} {low a : Nat} (h : Memory.risesFrom low m = true)
    (ha : a < low) : Memory.read m a = Memory.unlisted := by
  induction m generalizing low with
  | nil => rfl
  | cons c m ih =>
    simp only [Memory.risesFrom, Bool.and_eq_true, decide_eq_true_eq, bne_iff_ne] at h
    obtain ⟨⟨⟨h1, -⟩, -⟩, h4⟩ := h
    have hc : c.1 ≠ a := by omega
    simp [Memory.read, hc, ih h4 (by omega)]

end Sys2Proof.Machine
end

