-- ==== Sys2Proof/Laws/State.lean ====
section
/-! SUPPORT. One lemma per field per update of the state, true by rfl, so that no proof unfolds an update; and
what each update does to reads of memory. -/

namespace Sys2Proof.Machine

@[simp] theorem State.setA_a (s : State) (v : Byte) : (s.setA v).a = v := rfl
@[simp] theorem State.setA_x (s : State) (v : Byte) : (s.setA v).x = s.x := rfl
@[simp] theorem State.setA_y (s : State) (v : Byte) : (s.setA v).y = s.y := rfl
@[simp] theorem State.setA_sp (s : State) (v : Byte) : (s.setA v).sp = s.sp := rfl
@[simp] theorem State.setA_pc (s : State) (v : Byte) : (s.setA v).pc = s.pc := rfl
@[simp] theorem State.setA_p (s : State) (v : Byte) : (s.setA v).p = s.p := rfl
@[simp] theorem State.setA_mem (s : State) (v : Byte) : (s.setA v).mem = s.mem := rfl
@[simp] theorem State.setA_map (s : State) (v : Byte) : (s.setA v).map = s.map := rfl
@[simp] theorem State.setA_nmiPending (s : State) (v : Byte) : (s.setA v).nmiPending = s.nmiPending := rfl
@[simp] theorem State.setA_iBefore (s : State) (v : Byte) : (s.setA v).iBefore = s.iBefore := rfl
@[simp] theorem State.setA_draws (s : State) (v : Byte) : (s.setA v).draws = s.draws := rfl
@[simp] theorem State.setA_steps (s : State) (v : Byte) : (s.setA v).steps = s.steps := rfl
@[simp] theorem State.setA_env (s : State) (v : Byte) : (s.setA v).env = s.env := rfl
@[simp] theorem State.read_setA (s : State) (v : Byte) (a : Addr) : (s.setA v).read a = s.read a := rfl
@[simp] theorem State.readAs_setA (s : State) (v : Byte) (u : Access) (a : Addr) :
    (s.setA v).readAs u a = s.readAs u a := rfl
@[simp] theorem State.kindAt_setA (s : State) (v : Byte) (a : Addr) : (s.setA v).kindAt a = s.kindAt a := rfl

@[simp] theorem State.setX_a (s : State) (v : Byte) : (s.setX v).a = s.a := rfl
@[simp] theorem State.setX_x (s : State) (v : Byte) : (s.setX v).x = v := rfl
@[simp] theorem State.setX_y (s : State) (v : Byte) : (s.setX v).y = s.y := rfl
@[simp] theorem State.setX_sp (s : State) (v : Byte) : (s.setX v).sp = s.sp := rfl
@[simp] theorem State.setX_pc (s : State) (v : Byte) : (s.setX v).pc = s.pc := rfl
@[simp] theorem State.setX_p (s : State) (v : Byte) : (s.setX v).p = s.p := rfl
@[simp] theorem State.setX_mem (s : State) (v : Byte) : (s.setX v).mem = s.mem := rfl
@[simp] theorem State.setX_map (s : State) (v : Byte) : (s.setX v).map = s.map := rfl
@[simp] theorem State.setX_nmiPending (s : State) (v : Byte) : (s.setX v).nmiPending = s.nmiPending := rfl
@[simp] theorem State.setX_iBefore (s : State) (v : Byte) : (s.setX v).iBefore = s.iBefore := rfl
@[simp] theorem State.setX_draws (s : State) (v : Byte) : (s.setX v).draws = s.draws := rfl
@[simp] theorem State.setX_steps (s : State) (v : Byte) : (s.setX v).steps = s.steps := rfl
@[simp] theorem State.setX_env (s : State) (v : Byte) : (s.setX v).env = s.env := rfl
@[simp] theorem State.read_setX (s : State) (v : Byte) (a : Addr) : (s.setX v).read a = s.read a := rfl
@[simp] theorem State.readAs_setX (s : State) (v : Byte) (u : Access) (a : Addr) :
    (s.setX v).readAs u a = s.readAs u a := rfl
@[simp] theorem State.kindAt_setX (s : State) (v : Byte) (a : Addr) : (s.setX v).kindAt a = s.kindAt a := rfl

@[simp] theorem State.setY_a (s : State) (v : Byte) : (s.setY v).a = s.a := rfl
@[simp] theorem State.setY_x (s : State) (v : Byte) : (s.setY v).x = s.x := rfl
@[simp] theorem State.setY_y (s : State) (v : Byte) : (s.setY v).y = v := rfl
@[simp] theorem State.setY_sp (s : State) (v : Byte) : (s.setY v).sp = s.sp := rfl
@[simp] theorem State.setY_pc (s : State) (v : Byte) : (s.setY v).pc = s.pc := rfl
@[simp] theorem State.setY_p (s : State) (v : Byte) : (s.setY v).p = s.p := rfl
@[simp] theorem State.setY_mem (s : State) (v : Byte) : (s.setY v).mem = s.mem := rfl
@[simp] theorem State.setY_map (s : State) (v : Byte) : (s.setY v).map = s.map := rfl
@[simp] theorem State.setY_nmiPending (s : State) (v : Byte) : (s.setY v).nmiPending = s.nmiPending := rfl
@[simp] theorem State.setY_iBefore (s : State) (v : Byte) : (s.setY v).iBefore = s.iBefore := rfl
@[simp] theorem State.setY_draws (s : State) (v : Byte) : (s.setY v).draws = s.draws := rfl
@[simp] theorem State.setY_steps (s : State) (v : Byte) : (s.setY v).steps = s.steps := rfl
@[simp] theorem State.setY_env (s : State) (v : Byte) : (s.setY v).env = s.env := rfl
@[simp] theorem State.read_setY (s : State) (v : Byte) (a : Addr) : (s.setY v).read a = s.read a := rfl
@[simp] theorem State.readAs_setY (s : State) (v : Byte) (u : Access) (a : Addr) :
    (s.setY v).readAs u a = s.readAs u a := rfl
@[simp] theorem State.kindAt_setY (s : State) (v : Byte) (a : Addr) : (s.setY v).kindAt a = s.kindAt a := rfl

@[simp] theorem State.setS_a (s : State) (v : Byte) : (s.setS v).a = s.a := rfl
@[simp] theorem State.setS_x (s : State) (v : Byte) : (s.setS v).x = s.x := rfl
@[simp] theorem State.setS_y (s : State) (v : Byte) : (s.setS v).y = s.y := rfl
@[simp] theorem State.setS_sp (s : State) (v : Byte) : (s.setS v).sp = v := rfl
@[simp] theorem State.setS_pc (s : State) (v : Byte) : (s.setS v).pc = s.pc := rfl
@[simp] theorem State.setS_p (s : State) (v : Byte) : (s.setS v).p = s.p := rfl
@[simp] theorem State.setS_mem (s : State) (v : Byte) : (s.setS v).mem = s.mem := rfl
@[simp] theorem State.setS_map (s : State) (v : Byte) : (s.setS v).map = s.map := rfl
@[simp] theorem State.setS_nmiPending (s : State) (v : Byte) : (s.setS v).nmiPending = s.nmiPending := rfl
@[simp] theorem State.setS_iBefore (s : State) (v : Byte) : (s.setS v).iBefore = s.iBefore := rfl
@[simp] theorem State.setS_draws (s : State) (v : Byte) : (s.setS v).draws = s.draws := rfl
@[simp] theorem State.setS_steps (s : State) (v : Byte) : (s.setS v).steps = s.steps := rfl
@[simp] theorem State.setS_env (s : State) (v : Byte) : (s.setS v).env = s.env := rfl
@[simp] theorem State.read_setS (s : State) (v : Byte) (a : Addr) : (s.setS v).read a = s.read a := rfl
@[simp] theorem State.readAs_setS (s : State) (v : Byte) (u : Access) (a : Addr) :
    (s.setS v).readAs u a = s.readAs u a := rfl
@[simp] theorem State.kindAt_setS (s : State) (v : Byte) (a : Addr) : (s.setS v).kindAt a = s.kindAt a := rfl

@[simp] theorem State.setPc_a (s : State) (v : Addr) : (s.setPc v).a = s.a := rfl
@[simp] theorem State.setPc_x (s : State) (v : Addr) : (s.setPc v).x = s.x := rfl
@[simp] theorem State.setPc_y (s : State) (v : Addr) : (s.setPc v).y = s.y := rfl
@[simp] theorem State.setPc_sp (s : State) (v : Addr) : (s.setPc v).sp = s.sp := rfl
@[simp] theorem State.setPc_pc (s : State) (v : Addr) : (s.setPc v).pc = v := rfl
@[simp] theorem State.setPc_p (s : State) (v : Addr) : (s.setPc v).p = s.p := rfl
@[simp] theorem State.setPc_mem (s : State) (v : Addr) : (s.setPc v).mem = s.mem := rfl
@[simp] theorem State.setPc_map (s : State) (v : Addr) : (s.setPc v).map = s.map := rfl
@[simp] theorem State.setPc_nmiPending (s : State) (v : Addr) : (s.setPc v).nmiPending = s.nmiPending := rfl
@[simp] theorem State.setPc_iBefore (s : State) (v : Addr) : (s.setPc v).iBefore = s.iBefore := rfl
@[simp] theorem State.setPc_draws (s : State) (v : Addr) : (s.setPc v).draws = s.draws := rfl
@[simp] theorem State.setPc_steps (s : State) (v : Addr) : (s.setPc v).steps = s.steps := rfl
@[simp] theorem State.setPc_env (s : State) (v : Addr) : (s.setPc v).env = s.env := rfl
@[simp] theorem State.read_setPc (s : State) (v : Addr) (a : Addr) : (s.setPc v).read a = s.read a := rfl
@[simp] theorem State.readAs_setPc (s : State) (v : Addr) (u : Access) (a : Addr) :
    (s.setPc v).readAs u a = s.readAs u a := rfl
@[simp] theorem State.kindAt_setPc (s : State) (v : Addr) (a : Addr) : (s.setPc v).kindAt a = s.kindAt a := rfl

@[simp] theorem State.setP_a (s : State) (v : Flags) : (s.setP v).a = s.a := rfl
@[simp] theorem State.setP_x (s : State) (v : Flags) : (s.setP v).x = s.x := rfl
@[simp] theorem State.setP_y (s : State) (v : Flags) : (s.setP v).y = s.y := rfl
@[simp] theorem State.setP_sp (s : State) (v : Flags) : (s.setP v).sp = s.sp := rfl
@[simp] theorem State.setP_pc (s : State) (v : Flags) : (s.setP v).pc = s.pc := rfl
@[simp] theorem State.setP_p (s : State) (v : Flags) : (s.setP v).p = v := rfl
@[simp] theorem State.setP_mem (s : State) (v : Flags) : (s.setP v).mem = s.mem := rfl
@[simp] theorem State.setP_map (s : State) (v : Flags) : (s.setP v).map = s.map := rfl
@[simp] theorem State.setP_nmiPending (s : State) (v : Flags) : (s.setP v).nmiPending = s.nmiPending := rfl
@[simp] theorem State.setP_iBefore (s : State) (v : Flags) : (s.setP v).iBefore = s.iBefore := rfl
@[simp] theorem State.setP_draws (s : State) (v : Flags) : (s.setP v).draws = s.draws := rfl
@[simp] theorem State.setP_steps (s : State) (v : Flags) : (s.setP v).steps = s.steps := rfl
@[simp] theorem State.setP_env (s : State) (v : Flags) : (s.setP v).env = s.env := rfl
@[simp] theorem State.read_setP (s : State) (v : Flags) (a : Addr) : (s.setP v).read a = s.read a := rfl
@[simp] theorem State.readAs_setP (s : State) (v : Flags) (u : Access) (a : Addr) :
    (s.setP v).readAs u a = s.readAs u a := rfl
@[simp] theorem State.kindAt_setP (s : State) (v : Flags) (a : Addr) : (s.setP v).kindAt a = s.kindAt a := rfl

@[simp] theorem State.setNZ_a (s : State) (v : Byte) : (s.setNZ v).a = s.a := rfl
@[simp] theorem State.setNZ_x (s : State) (v : Byte) : (s.setNZ v).x = s.x := rfl
@[simp] theorem State.setNZ_y (s : State) (v : Byte) : (s.setNZ v).y = s.y := rfl
@[simp] theorem State.setNZ_sp (s : State) (v : Byte) : (s.setNZ v).sp = s.sp := rfl
@[simp] theorem State.setNZ_pc (s : State) (v : Byte) : (s.setNZ v).pc = s.pc := rfl
@[simp] theorem State.setNZ_p (s : State) (v : Byte) : (s.setNZ v).p = s.p.setNZ v := rfl
@[simp] theorem State.setNZ_mem (s : State) (v : Byte) : (s.setNZ v).mem = s.mem := rfl
@[simp] theorem State.setNZ_map (s : State) (v : Byte) : (s.setNZ v).map = s.map := rfl
@[simp] theorem State.setNZ_nmiPending (s : State) (v : Byte) : (s.setNZ v).nmiPending = s.nmiPending := rfl
@[simp] theorem State.setNZ_iBefore (s : State) (v : Byte) : (s.setNZ v).iBefore = s.iBefore := rfl
@[simp] theorem State.setNZ_draws (s : State) (v : Byte) : (s.setNZ v).draws = s.draws := rfl
@[simp] theorem State.setNZ_steps (s : State) (v : Byte) : (s.setNZ v).steps = s.steps := rfl
@[simp] theorem State.setNZ_env (s : State) (v : Byte) : (s.setNZ v).env = s.env := rfl
@[simp] theorem State.read_setNZ (s : State) (v : Byte) (a : Addr) : (s.setNZ v).read a = s.read a := rfl
@[simp] theorem State.readAs_setNZ (s : State) (v : Byte) (u : Access) (a : Addr) :
    (s.setNZ v).readAs u a = s.readAs u a := rfl
@[simp] theorem State.kindAt_setNZ (s : State) (v : Byte) (a : Addr) : (s.setNZ v).kindAt a = s.kindAt a := rfl

@[simp] theorem State.write_a (s : State) (a : Addr) (v : Byte) :
    (s.write a v).a = s.a := rfl
@[simp] theorem State.write_x (s : State) (a : Addr) (v : Byte) :
    (s.write a v).x = s.x := rfl
@[simp] theorem State.write_y (s : State) (a : Addr) (v : Byte) :
    (s.write a v).y = s.y := rfl
@[simp] theorem State.write_sp (s : State) (a : Addr) (v : Byte) :
    (s.write a v).sp = s.sp := rfl
@[simp] theorem State.write_pc (s : State) (a : Addr) (v : Byte) :
    (s.write a v).pc = s.pc := rfl
@[simp] theorem State.write_p (s : State) (a : Addr) (v : Byte) :
    (s.write a v).p = s.p := rfl
@[simp] theorem State.write_mem (s : State) (a : Addr) (v : Byte) :
    (s.write a v).mem = s.map.store s.mem a v := rfl
@[simp] theorem State.write_map (s : State) (a : Addr) (v : Byte) :
    (s.write a v).map = s.map := rfl
@[simp] theorem State.write_nmiPending (s : State) (a : Addr) (v : Byte) :
    (s.write a v).nmiPending = s.nmiPending := rfl
@[simp] theorem State.write_iBefore (s : State) (a : Addr) (v : Byte) :
    (s.write a v).iBefore = s.iBefore := rfl
@[simp] theorem State.write_draws (s : State) (a : Addr) (v : Byte) :
    (s.write a v).draws = s.draws := rfl
@[simp] theorem State.write_steps (s : State) (a : Addr) (v : Byte) :
    (s.write a v).steps = s.steps := rfl
@[simp] theorem State.write_env (s : State) (a : Addr) (v : Byte) :
    (s.write a v).env = s.env := rfl
@[simp] theorem State.kindAt_write (s : State) (a : Addr) (v : Byte) (b : Addr) :
    (s.write a v).kindAt b = s.kindAt b := rfl

@[simp] theorem State.drew_a (s : State) : s.drew.a = s.a := rfl
@[simp] theorem State.drew_x (s : State) : s.drew.x = s.x := rfl
@[simp] theorem State.drew_y (s : State) : s.drew.y = s.y := rfl
@[simp] theorem State.drew_sp (s : State) : s.drew.sp = s.sp := rfl
@[simp] theorem State.drew_pc (s : State) : s.drew.pc = s.pc := rfl
@[simp] theorem State.drew_p (s : State) : s.drew.p = s.p := rfl
@[simp] theorem State.drew_mem (s : State) : s.drew.mem = s.mem := rfl
@[simp] theorem State.drew_map (s : State) : s.drew.map = s.map := rfl
@[simp] theorem State.drew_nmiPending (s : State) : s.drew.nmiPending = s.nmiPending := rfl
@[simp] theorem State.drew_iBefore (s : State) : s.drew.iBefore = s.iBefore := rfl
@[simp] theorem State.drew_draws (s : State) : s.drew.draws = s.draws + 1 := rfl
@[simp] theorem State.drew_steps (s : State) : s.drew.steps = s.steps := rfl
@[simp] theorem State.drew_env (s : State) : s.drew.env = s.env := rfl
@[simp] theorem State.read_drew (s : State) (a : Addr) : s.drew.read a = s.read a := rfl
@[simp] theorem State.readAs_drew (s : State) (u : Access) (a : Addr) : s.drew.readAs u a = s.readAs u a := rfl
@[simp] theorem State.kindAt_drew (s : State) (a : Addr) : s.drew.kindAt a = s.kindAt a := rfl

@[simp] theorem State.completed_a (s : State) (i : Bool) : (s.completed i).a = s.a := rfl
@[simp] theorem State.completed_x (s : State) (i : Bool) : (s.completed i).x = s.x := rfl
@[simp] theorem State.completed_y (s : State) (i : Bool) : (s.completed i).y = s.y := rfl
@[simp] theorem State.completed_sp (s : State) (i : Bool) : (s.completed i).sp = s.sp := rfl
@[simp] theorem State.completed_pc (s : State) (i : Bool) : (s.completed i).pc = s.pc := rfl
@[simp] theorem State.completed_p (s : State) (i : Bool) : (s.completed i).p = s.p := rfl
@[simp] theorem State.completed_mem (s : State) (i : Bool) : (s.completed i).mem = s.mem := rfl
@[simp] theorem State.completed_map (s : State) (i : Bool) : (s.completed i).map = s.map := rfl
@[simp] theorem State.completed_nmiPending (s : State) (i : Bool) : (s.completed i).nmiPending = s.nmiPending := rfl
@[simp] theorem State.completed_iBefore (s : State) (i : Bool) : (s.completed i).iBefore = i := rfl
@[simp] theorem State.completed_draws (s : State) (i : Bool) : (s.completed i).draws = s.draws := rfl
@[simp] theorem State.completed_steps (s : State) (i : Bool) : (s.completed i).steps = s.steps + 1 := rfl
@[simp] theorem State.completed_env (s : State) (i : Bool) : (s.completed i).env = s.env := rfl
@[simp] theorem State.kindAt_completed (s : State) (i : Bool) (a : Addr) :
    (s.completed i).kindAt a = s.kindAt a := rfl

@[simp] theorem State.afterSequence_a (s : State) : s.afterSequence.a = s.a := rfl
@[simp] theorem State.afterSequence_x (s : State) : s.afterSequence.x = s.x := rfl
@[simp] theorem State.afterSequence_y (s : State) : s.afterSequence.y = s.y := rfl
@[simp] theorem State.afterSequence_sp (s : State) : s.afterSequence.sp = s.sp := rfl
@[simp] theorem State.afterSequence_pc (s : State) : s.afterSequence.pc = s.pc := rfl
@[simp] theorem State.afterSequence_p (s : State) : s.afterSequence.p = s.p := rfl
@[simp] theorem State.afterSequence_mem (s : State) : s.afterSequence.mem = s.mem := rfl
@[simp] theorem State.afterSequence_map (s : State) : s.afterSequence.map = s.map := rfl
@[simp] theorem State.afterSequence_nmiPending (s : State) : s.afterSequence.nmiPending = s.nmiPending := rfl
@[simp] theorem State.afterSequence_iBefore (s : State) : s.afterSequence.iBefore = s.p.i := rfl
@[simp] theorem State.afterSequence_draws (s : State) : s.afterSequence.draws = s.draws := rfl
@[simp] theorem State.afterSequence_steps (s : State) : s.afterSequence.steps = s.steps + 1 := rfl
@[simp] theorem State.afterSequence_env (s : State) : s.afterSequence.env = s.env := rfl
@[simp] theorem State.kindAt_afterSequence (s : State) (a : Addr) : s.afterSequence.kindAt a = s.kindAt a := rfl

@[simp] theorem Flags.setNZ_n (p : Flags) (v : Byte) : (p.setNZ v).n = v.msb := rfl
@[simp] theorem Flags.setNZ_v (p : Flags) (v : Byte) : (p.setNZ v).v = p.v := rfl
@[simp] theorem Flags.setNZ_d (p : Flags) (v : Byte) : (p.setNZ v).d = p.d := rfl
@[simp] theorem Flags.setNZ_i (p : Flags) (v : Byte) : (p.setNZ v).i = p.i := rfl
@[simp] theorem Flags.setNZ_z (p : Flags) (v : Byte) : (p.setNZ v).z = (v == 0#8) := rfl
@[simp] theorem Flags.setNZ_c (p : Flags) (v : Byte) : (p.setNZ v).c = p.c := rfl

theorem State.read_eq (s : State) (a : Addr) : s.read a = s.readAs .data a := rfl

/-- A read of RAM or ROM gives what is stored, whatever it is for. -/
theorem State.readAs_of_holds {s : State} {a : Addr} (u : Access) (h : (s.kindAt a).holds = true) :
    s.readAs u a = Memory.read s.mem a.toNat := by
  unfold State.readAs
  rw [h]
  rfl

/-- A read where the platform has a device or nothing gives a free value. -/
theorem State.readAs_of_not_holds {s : State} {a : Addr} (u : Access) (h : (s.kindAt a).holds = false) :
    s.readAs u a = Config.busValue s.steps u a := by
  unfold State.readAs
  rw [h]
  rfl

/-- What a read gives depends on memory, the map and the count of steps alone. -/
theorem State.readAs_congr {s t : State} (u : Access) (a : Addr) (hm : t.mem = s.mem) (hk : t.map = s.map)
    (hs : t.steps = s.steps) : t.readAs u a = s.readAs u a := by
  unfold State.readAs State.kindAt
  rw [hm, hk, hs]

end Sys2Proof.Machine
end

