-- ==== Sys2Proof/Laws/Ops.lean ====
section
/-! SUPPORT. For each shared operation over memory, the stack and the vectors, what it does, said once. -/

namespace Sys2Proof.Machine

/-- A read after a write (R74): the written byte at its address if that is RAM, every other address as before. -/
theorem State.readAs_write (s : State) (u : Access) (a b : Addr) (v : Byte) :
    (s.write a v).readAs u b = if b = a ∧ s.kindAt a = .ram then v else s.readAs u b := by
  show (bif (s.map.kindAt b).holds then Memory.read (s.map.store s.mem a v) b.toNat else _) =
    if b = a ∧ s.map.kindAt a = .ram then v else s.readAs u b
  rw [MemMap.read_store]
  by_cases h : b = a ∧ s.map.kindAt a = .ram
  · rw [if_pos h, if_pos h, h.1, h.2]
    rfl
  · rw [if_neg h, if_neg h]
    rfl

theorem State.read_write (s : State) (a b : Addr) (v : Byte) :
    (s.write a v).read b = if b = a ∧ s.kindAt a = .ram then v else s.read b :=
  s.readAs_write .data a b v

theorem State.read_write_ne (s : State) {a b : Addr} (v : Byte) (h : b ≠ a) :
    (s.write a v).read b = s.read b := by
  simp [State.read_write, h]

/-- A write keeps the canonical form of memory. -/
theorem State.wf_write (s : State) (a : Addr) (v : Byte) (h : Memory.wf s.mem = true) :
    Memory.wf (s.write a v).mem = true :=
  s.map.wf_store a v h

/-- `push` (R12) writes one byte of page one and moves S down; nothing else changes. -/
theorem State.push_eq (s : State) (v : Byte) :
    s.push v = { s with mem := s.map.store s.mem (stackAddr s.sp) v, sp := s.sp - 1 } := rfl

/-- `pull` (R12) moves S up and reads the byte of page one there; nothing else changes. -/
theorem State.pull_eq (s : State) :
    s.pull = (s.readAs .stack (stackAddr (s.sp + 1)), { s with sp := s.sp + 1 }) := rfl

/-- Pushing an address (R231, R279) writes two bytes, the high one first, and moves S down by two. -/
theorem State.pushAddr_eq (s : State) (v : Addr) :
    s.pushAddr v =
      { s with
        mem := s.map.store (s.map.store s.mem (stackAddr s.sp) (highByte v))
          (stackAddr (s.sp - 1)) (lowByte v)
        sp := s.sp - 1 - 1 } := rfl

/-- Pulling an address (R232, R257) reads two bytes, the low one first, and moves S up by two. -/
theorem State.pullAddr_eq (s : State) :
    s.pullAddr =
      (joinBytes (s.readAs .stack (stackAddr (s.sp + 1 + 1))) (s.readAs .stack (stackAddr (s.sp + 1))),
        { s with sp := s.sp + 1 + 1 }) := rfl

/-- What `Read16` gives depends on memory, the map and the count of steps alone. -/
theorem State.read16_congr {s t : State} (u : Access) (a : Addr) (hm : t.mem = s.mem) (hk : t.map = s.map)
    (hs : t.steps = s.steps) : t.read16 u a = s.read16 u a := by
  unfold State.read16
  rw [State.readAs_congr u _ hm hk hs, State.readAs_congr u _ hm hk hs]

/-- The memory after an entry (R279): PCH, PCL and the image of P, at falling addresses of page one. -/
def State.enterMem (s : State) (b : Bool) : Memory :=
  s.map.store
    (s.map.store (s.map.store s.mem (stackAddr s.sp) (highByte s.pc)) (stackAddr (s.sp - 1)) (lowByte s.pc))
    (stackAddr (s.sp - 1 - 1)) (s.p.image b)

/-- All that `common_entry` (R279) does. -/
theorem State.enter_eq (s : State) (b : Bool) (vector : Addr) :
    s.enter b vector =
      { s with
        mem := s.enterMem b
        sp := s.sp - 1 - 1 - 1
        p := { s.p with i := true, d := false }
        pc := ({ s with mem := s.enterMem b } : State).read16 .vector vector } := by
  have h := State.read16_congr (s := { s with mem := s.enterMem b })
    (t := ((s.pushAddr s.pc).push (s.p.image b)).setP { s.p with i := true, d := false }) .vector vector rfl rfl rfl
  unfold State.enter
  dsimp only
  rw [h]
  simp only [State.pushAddr, State.push, State.setS, State.write, State.setP, State.setPc, State.enterMem]

/-- All that the return from an interrupt (R257) does. -/
theorem State.returnFromInterrupt_eq (s : State) :
    s.returnFromInterrupt =
      { s with
        sp := s.sp + 1 + 1 + 1
        p := Flags.load (s.readAs .stack (stackAddr (s.sp + 1)))
        pc := joinBytes (s.readAs .stack (stackAddr (s.sp + 1 + 1 + 1)))
          (s.readAs .stack (stackAddr (s.sp + 1 + 1))) } :=
  rfl

theorem State.wf_enter (s : State) (b : Bool) (vector : Addr) (h : Memory.wf s.mem = true) :
    Memory.wf (s.enter b vector).mem = true := by
  rw [State.enter_eq]
  exact s.map.wf_store _ _ (s.map.wf_store _ _ (s.map.wf_store _ _ h))

/-- An SO edge during a step touches V and the count of draws only (R274). -/
theorem State.overflowDuring_eq (s : State) (w : Bool) :
    s.overflowDuring w =
      { s with
        p := { s.p with v := if w then Config.soRaceV s.draws else true }
        draws := if w then s.draws + 1 else s.draws } := by
  cases w <;> rfl

end Sys2Proof.Machine
end

