-- ==== Sys2Proof/Laws/Meanings.lean ====
section
/-! SUPPORT. For each operation that the meanings share, all that it does, as one record update (or, for ADC and
SBC, as the three cases of R180 to R183). -/

namespace Sys2Proof.Machine

theorem State.lda_eq (s : State) (m : Byte) : s.lda m = { s with a := m, p := s.p.setNZ m } := rfl

theorem State.ldx_eq (s : State) (m : Byte) : s.ldx m = { s with x := m, p := s.p.setNZ m } := rfl

theorem State.ldy_eq (s : State) (m : Byte) : s.ldy m = { s with y := m, p := s.p.setNZ m } := rfl

theorem State.takeSum_eq (s : State) (t : Sum) :
    s.takeSum t =
      { s with a := t.r, p := { s.p with n := t.r.msb, v := t.v, z := t.r == 0#8, c := t.c } } := rfl

theorem State.drawDecimal_eq (s : State) :
    s.drawDecimal =
      { s with
        a := Config.invalidA s.draws
        p := { s.p with
          n := Config.invalidN s.draws, v := Config.invalidV s.draws
          z := Config.invalidZ s.draws, c := Config.invalidC s.draws }
        draws := s.draws + 1 } := rfl

theorem State.adc_binary {s : State} (m : Byte) (hd : s.p.d = false) :
    s.adc m = s.takeSum (addBinary s.a m s.p.c) := by
  simp [State.adc, hd]

theorem State.adc_decimal {s : State} {m : Byte} (hd : s.p.d = true) (ha : validBcd s.a = true)
    (hm : validBcd m = true) :
    s.adc m = (s.takeSum (addDecimal s.a m s.p.c (Config.decimalV s.draws))).drew := by
  simp [State.adc, hd, ha, hm]

theorem State.adc_invalid {s : State} {m : Byte} (hd : s.p.d = true)
    (h : validBcd s.a = false ∨ validBcd m = false) : s.adc m = s.drawDecimal := by
  rcases h with h | h <;> simp [State.adc, hd, h]

theorem State.sbc_binary {s : State} (m : Byte) (hd : s.p.d = false) :
    s.sbc m = s.takeSum (subBinary s.a m s.p.c) := by
  simp [State.sbc, hd]

theorem State.sbc_decimal {s : State} {m : Byte} (hd : s.p.d = true) (ha : validBcd s.a = true)
    (hm : validBcd m = true) :
    s.sbc m = (s.takeSum (subDecimal s.a m s.p.c (Config.decimalV s.draws))).drew := by
  simp [State.sbc, hd, ha, hm]

theorem State.sbc_invalid {s : State} {m : Byte} (hd : s.p.d = true)
    (h : validBcd s.a = false ∨ validBcd m = false) : s.sbc m = s.drawDecimal := by
  rcases h with h | h <;> simp [State.sbc, hd, h]

/-- ADC changes A, N, V, Z, C and the count of draws at most. -/
theorem State.adc_frame (s : State) (m : Byte) :
    ∃ (r : Byte) (n v z c : Bool) (k : Nat),
      s.adc m = { s with a := r, p := { s.p with n := n, v := v, z := z, c := c }, draws := k } ∧
        (s.p.d = false → k = s.draws) := by
  unfold State.adc
  split
  · next hd =>
    split <;> exact ⟨_, _, _, _, _, _, rfl, fun h => absurd hd (by simp [h])⟩
  · exact ⟨_, _, _, _, _, _, rfl, fun _ => rfl⟩

/-- SBC changes A, N, V, Z, C and the count of draws at most. -/
theorem State.sbc_frame (s : State) (m : Byte) :
    ∃ (r : Byte) (n v z c : Bool) (k : Nat),
      s.sbc m = { s with a := r, p := { s.p with n := n, v := v, z := z, c := c }, draws := k } ∧
        (s.p.d = false → k = s.draws) := by
  unfold State.sbc
  split
  · next hd =>
    split <;> exact ⟨_, _, _, _, _, _, rfl, fun h => absurd hd (by simp [h])⟩
  · exact ⟨_, _, _, _, _, _, rfl, fun _ => rfl⟩

theorem State.cmp_eq (s : State) (m : Byte) : s.cmp m = { s with p := s.p.compare s.a m } := rfl

theorem State.cpx_eq (s : State) (m : Byte) : s.cpx m = { s with p := s.p.compare s.x m } := rfl

theorem State.cpy_eq (s : State) (m : Byte) : s.cpy m = { s with p := s.p.compare s.y m } := rfl

theorem State.incMemory_eq (s : State) (ea : Addr) :
    s.incMemory ea =
      { s with mem := s.map.store s.mem ea (s.read ea + 1), p := s.p.setNZ (s.read ea + 1) } := rfl

theorem State.decMemory_eq (s : State) (ea : Addr) :
    s.decMemory ea =
      { s with mem := s.map.store s.mem ea (s.read ea - 1), p := s.p.setNZ (s.read ea - 1) } := rfl

theorem State.bitMemory_eq (s : State) (m : Byte) :
    s.bitMemory m =
      { s with p := { s.p with z := s.a &&& m == 0#8, n := m.getLsbD 7, v := m.getLsbD 6 } } := rfl

theorem State.bitImmediate_eq (s : State) (m : Byte) :
    s.bitImmediate m = { s with p := { s.p with z := s.a &&& m == 0#8 } } := rfl

theorem State.tsb_eq (s : State) (ea : Addr) :
    s.tsb ea =
      { s with
        mem := s.map.store s.mem ea (s.read ea ||| s.a)
        p := { s.p with z := s.a &&& s.read ea == 0#8 } } := rfl

theorem State.trb_eq (s : State) (ea : Addr) :
    s.trb ea =
      { s with
        mem := s.map.store s.mem ea (s.read ea &&& ~~~s.a)
        p := { s.p with z := s.a &&& s.read ea == 0#8 } } := rfl

theorem State.shiftA_eq (s : State) (f : Shift) :
    s.shiftA f =
      { s with a := (f s.a s.p.c).1, p := { s.p.setNZ (f s.a s.p.c).1 with c := (f s.a s.p.c).2 } } := rfl

theorem State.shiftMemory_eq (s : State) (f : Shift) (ea : Addr) :
    s.shiftMemory f ea =
      { s with
        mem := s.map.store s.mem ea (f (s.read ea) s.p.c).1
        p := { s.p.setNZ (f (s.read ea) s.p.c).1 with c := (f (s.read ea) s.p.c).2 } } := rfl

theorem State.branchIf_eq (s : State) (cond : Bool) (off : Byte) :
    s.branchIf cond off = { s with pc := if cond then s.targetRel off else s.pc } := by
  cases cond <;> rfl

theorem State.jumpToSubroutine_eq (s : State) (target : Addr) :
    s.jumpToSubroutine target =
      { s with
        mem := s.map.store (s.map.store s.mem (stackAddr s.sp) (highByte (s.pc - 1)))
          (stackAddr (s.sp - 1)) (lowByte (s.pc - 1))
        sp := s.sp - 1 - 1
        pc := target } := rfl

theorem State.returnFromSubroutine_eq (s : State) :
    s.returnFromSubroutine =
      { s with
        sp := s.sp + 1 + 1
        pc := joinBytes (s.readAs .stack (stackAddr (s.sp + 1 + 1)))
          (s.readAs .stack (stackAddr (s.sp + 1))) + 1 } := rfl

theorem State.breakSequence_eq (s : State) :
    s.breakSequence = (s.setPc (s.pc + 1)).enter true 0xFFFE#16 := rfl

end Sys2Proof.Machine
end

