-- ==== Sys2Proof/Laws/PerInstr.lean ====
section
/-! SUPPORT. The family `Encoding`: the bytes of every instruction are one complete instruction by the lengths of
R101, made per instruction. -/

namespace Sys2Proof.Laws.Encoding

/-- The instruction's bytes are a well-formed byte string (R101, R102). -/
def Statement (i : Instr) : Prop := i.wellFormed = true

theorem brk : Statement .brk := rfl
theorem oraIzx (zp : Byte) : Statement (.oraIzx zp) := rfl
theorem rsv02 (ignored : Byte) : Statement (.rsv02 ignored) := rfl
theorem rsv03 : Statement .rsv03 := rfl
theorem tsbZpg (zp : Byte) : Statement (.tsbZpg zp) := rfl
theorem oraZpg (zp : Byte) : Statement (.oraZpg zp) := rfl
theorem aslZpg (zp : Byte) : Statement (.aslZpg zp) := rfl
theorem rsv07 : Statement .rsv07 := rfl
theorem php : Statement .php := rfl
theorem oraImm (imm : Byte) : Statement (.oraImm imm) := rfl
theorem aslAcc : Statement .aslAcc := rfl
theorem rsv0b : Statement .rsv0b := rfl
theorem tsbAbs (addr : Addr) : Statement (.tsbAbs addr) := rfl
theorem oraAbs (addr : Addr) : Statement (.oraAbs addr) := rfl
theorem aslAbs (addr : Addr) : Statement (.aslAbs addr) := rfl
theorem rsv0f : Statement .rsv0f := rfl
theorem bpl (off : Byte) : Statement (.bpl off) := rfl
theorem oraIzy (zp : Byte) : Statement (.oraIzy zp) := rfl
theorem oraIzp (zp : Byte) : Statement (.oraIzp zp) := rfl
theorem rsv13 : Statement .rsv13 := rfl
theorem trbZpg (zp : Byte) : Statement (.trbZpg zp) := rfl
theorem oraZpx (zp : Byte) : Statement (.oraZpx zp) := rfl
theorem aslZpx (zp : Byte) : Statement (.aslZpx zp) := rfl
theorem rsv17 : Statement .rsv17 := rfl
theorem clc : Statement .clc := rfl
theorem oraAby (addr : Addr) : Statement (.oraAby addr) := rfl
theorem ina : Statement .ina := rfl
theorem rsv1b : Statement .rsv1b := rfl
theorem trbAbs (addr : Addr) : Statement (.trbAbs addr) := rfl
theorem oraAbx (addr : Addr) : Statement (.oraAbx addr) := rfl
theorem aslAbx (addr : Addr) : Statement (.aslAbx addr) := rfl
theorem rsv1f : Statement .rsv1f := rfl
theorem jsr (addr : Addr) : Statement (.jsr addr) := rfl
theorem andIzx (zp : Byte) : Statement (.andIzx zp) := rfl
theorem rsv22 (ignored : Byte) : Statement (.rsv22 ignored) := rfl
theorem rsv23 : Statement .rsv23 := rfl
theorem bitZpg (zp : Byte) : Statement (.bitZpg zp) := rfl
theorem andZpg (zp : Byte) : Statement (.andZpg zp) := rfl
theorem rolZpg (zp : Byte) : Statement (.rolZpg zp) := rfl
theorem rsv27 : Statement .rsv27 := rfl
theorem plp : Statement .plp := rfl
theorem andImm (imm : Byte) : Statement (.andImm imm) := rfl
theorem rolAcc : Statement .rolAcc := rfl
theorem rsv2b : Statement .rsv2b := rfl
theorem bitAbs (addr : Addr) : Statement (.bitAbs addr) := rfl
theorem andAbs (addr : Addr) : Statement (.andAbs addr) := rfl
theorem rolAbs (addr : Addr) : Statement (.rolAbs addr) := rfl
theorem rsv2f : Statement .rsv2f := rfl
theorem bmi (off : Byte) : Statement (.bmi off) := rfl
theorem andIzy (zp : Byte) : Statement (.andIzy zp) := rfl
theorem andIzp (zp : Byte) : Statement (.andIzp zp) := rfl
theorem rsv33 : Statement .rsv33 := rfl
theorem bitZpx (zp : Byte) : Statement (.bitZpx zp) := rfl
theorem andZpx (zp : Byte) : Statement (.andZpx zp) := rfl
theorem rolZpx (zp : Byte) : Statement (.rolZpx zp) := rfl
theorem rsv37 : Statement .rsv37 := rfl
theorem sec : Statement .sec := rfl
theorem andAby (addr : Addr) : Statement (.andAby addr) := rfl
theorem dea : Statement .dea := rfl
theorem rsv3b : Statement .rsv3b := rfl
theorem bitAbx (addr : Addr) : Statement (.bitAbx addr) := rfl
theorem andAbx (addr : Addr) : Statement (.andAbx addr) := rfl
theorem rolAbx (addr : Addr) : Statement (.rolAbx addr) := rfl
theorem rsv3f : Statement .rsv3f := rfl
theorem rti : Statement .rti := rfl
theorem eorIzx (zp : Byte) : Statement (.eorIzx zp) := rfl
theorem rsv42 (ignored : Byte) : Statement (.rsv42 ignored) := rfl
theorem rsv43 : Statement .rsv43 := rfl
theorem rsv44 (ignored : Byte) : Statement (.rsv44 ignored) := rfl
theorem eorZpg (zp : Byte) : Statement (.eorZpg zp) := rfl
theorem lsrZpg (zp : Byte) : Statement (.lsrZpg zp) := rfl
theorem rsv47 : Statement .rsv47 := rfl
theorem pha : Statement .pha := rfl
theorem eorImm (imm : Byte) : Statement (.eorImm imm) := rfl
theorem lsrAcc : Statement .lsrAcc := rfl
theorem rsv4b : Statement .rsv4b := rfl
theorem jmpAbs (addr : Addr) : Statement (.jmpAbs addr) := rfl
theorem eorAbs (addr : Addr) : Statement (.eorAbs addr) := rfl
theorem lsrAbs (addr : Addr) : Statement (.lsrAbs addr) := rfl
theorem rsv4f : Statement .rsv4f := rfl
theorem bvc (off : Byte) : Statement (.bvc off) := rfl
theorem eorIzy (zp : Byte) : Statement (.eorIzy zp) := rfl
theorem eorIzp (zp : Byte) : Statement (.eorIzp zp) := rfl
theorem rsv53 : Statement .rsv53 := rfl
theorem rsv54 (ignored : Byte) : Statement (.rsv54 ignored) := rfl
theorem eorZpx (zp : Byte) : Statement (.eorZpx zp) := rfl
theorem lsrZpx (zp : Byte) : Statement (.lsrZpx zp) := rfl
theorem rsv57 : Statement .rsv57 := rfl
theorem cli : Statement .cli := rfl
theorem eorAby (addr : Addr) : Statement (.eorAby addr) := rfl
theorem phy : Statement .phy := rfl
theorem rsv5b : Statement .rsv5b := rfl
theorem rsv5c (ignored : Addr) : Statement (.rsv5c ignored) := rfl
theorem eorAbx (addr : Addr) : Statement (.eorAbx addr) := rfl
theorem lsrAbx (addr : Addr) : Statement (.lsrAbx addr) := rfl
theorem rsv5f : Statement .rsv5f := rfl
theorem rts : Statement .rts := rfl
theorem adcIzx (zp : Byte) : Statement (.adcIzx zp) := rfl
theorem rsv62 (ignored : Byte) : Statement (.rsv62 ignored) := rfl
theorem rsv63 : Statement .rsv63 := rfl
theorem stzZpg (zp : Byte) : Statement (.stzZpg zp) := rfl
theorem adcZpg (zp : Byte) : Statement (.adcZpg zp) := rfl
theorem rorZpg (zp : Byte) : Statement (.rorZpg zp) := rfl
theorem rsv67 : Statement .rsv67 := rfl
theorem pla : Statement .pla := rfl
theorem adcImm (imm : Byte) : Statement (.adcImm imm) := rfl
theorem rorAcc : Statement .rorAcc := rfl
theorem rsv6b : Statement .rsv6b := rfl
theorem jmpInd (addr : Addr) : Statement (.jmpInd addr) := rfl
theorem adcAbs (addr : Addr) : Statement (.adcAbs addr) := rfl
theorem rorAbs (addr : Addr) : Statement (.rorAbs addr) := rfl
theorem rsv6f : Statement .rsv6f := rfl
theorem bvs (off : Byte) : Statement (.bvs off) := rfl
theorem adcIzy (zp : Byte) : Statement (.adcIzy zp) := rfl
theorem adcIzp (zp : Byte) : Statement (.adcIzp zp) := rfl
theorem rsv73 : Statement .rsv73 := rfl
theorem stzZpx (zp : Byte) : Statement (.stzZpx zp) := rfl
theorem adcZpx (zp : Byte) : Statement (.adcZpx zp) := rfl
theorem rorZpx (zp : Byte) : Statement (.rorZpx zp) := rfl
theorem rsv77 : Statement .rsv77 := rfl
theorem sei : Statement .sei := rfl
theorem adcAby (addr : Addr) : Statement (.adcAby addr) := rfl
theorem ply : Statement .ply := rfl
theorem rsv7b : Statement .rsv7b := rfl
theorem jmpIax (addr : Addr) : Statement (.jmpIax addr) := rfl
theorem adcAbx (addr : Addr) : Statement (.adcAbx addr) := rfl
theorem rorAbx (addr : Addr) : Statement (.rorAbx addr) := rfl
theorem rsv7f : Statement .rsv7f := rfl
theorem bra (off : Byte) : Statement (.bra off) := rfl
theorem staIzx (zp : Byte) : Statement (.staIzx zp) := rfl
theorem rsv82 (ignored : Byte) : Statement (.rsv82 ignored) := rfl
theorem rsv83 : Statement .rsv83 := rfl
theorem styZpg (zp : Byte) : Statement (.styZpg zp) := rfl
theorem staZpg (zp : Byte) : Statement (.staZpg zp) := rfl
theorem stxZpg (zp : Byte) : Statement (.stxZpg zp) := rfl
theorem rsv87 : Statement .rsv87 := rfl
theorem dey : Statement .dey := rfl
theorem bitImm (imm : Byte) : Statement (.bitImm imm) := rfl
theorem txa : Statement .txa := rfl
theorem rsv8b : Statement .rsv8b := rfl
theorem styAbs (addr : Addr) : Statement (.styAbs addr) := rfl
theorem staAbs (addr : Addr) : Statement (.staAbs addr) := rfl
theorem stxAbs (addr : Addr) : Statement (.stxAbs addr) := rfl
theorem rsv8f : Statement .rsv8f := rfl
theorem bcc (off : Byte) : Statement (.bcc off) := rfl
theorem staIzy (zp : Byte) : Statement (.staIzy zp) := rfl
theorem staIzp (zp : Byte) : Statement (.staIzp zp) := rfl
theorem rsv93 : Statement .rsv93 := rfl
theorem styZpx (zp : Byte) : Statement (.styZpx zp) := rfl
theorem staZpx (zp : Byte) : Statement (.staZpx zp) := rfl
theorem stxZpy (zp : Byte) : Statement (.stxZpy zp) := rfl
theorem rsv97 : Statement .rsv97 := rfl
theorem tya : Statement .tya := rfl
theorem staAby (addr : Addr) : Statement (.staAby addr) := rfl
theorem txs : Statement .txs := rfl
theorem rsv9b : Statement .rsv9b := rfl
theorem stzAbs (addr : Addr) : Statement (.stzAbs addr) := rfl
theorem staAbx (addr : Addr) : Statement (.staAbx addr) := rfl
theorem stzAbx (addr : Addr) : Statement (.stzAbx addr) := rfl
theorem rsv9f : Statement .rsv9f := rfl
theorem ldyImm (imm : Byte) : Statement (.ldyImm imm) := rfl
theorem ldaIzx (zp : Byte) : Statement (.ldaIzx zp) := rfl
theorem ldxImm (imm : Byte) : Statement (.ldxImm imm) := rfl
theorem rsva3 : Statement .rsva3 := rfl
theorem ldyZpg (zp : Byte) : Statement (.ldyZpg zp) := rfl
theorem ldaZpg (zp : Byte) : Statement (.ldaZpg zp) := rfl
theorem ldxZpg (zp : Byte) : Statement (.ldxZpg zp) := rfl
theorem rsva7 : Statement .rsva7 := rfl
theorem tay : Statement .tay := rfl
theorem ldaImm (imm : Byte) : Statement (.ldaImm imm) := rfl
theorem tax : Statement .tax := rfl
theorem rsvab : Statement .rsvab := rfl
theorem ldyAbs (addr : Addr) : Statement (.ldyAbs addr) := rfl
theorem ldaAbs (addr : Addr) : Statement (.ldaAbs addr) := rfl
theorem ldxAbs (addr : Addr) : Statement (.ldxAbs addr) := rfl
theorem rsvaf : Statement .rsvaf := rfl
theorem bcs (off : Byte) : Statement (.bcs off) := rfl
theorem ldaIzy (zp : Byte) : Statement (.ldaIzy zp) := rfl
theorem ldaIzp (zp : Byte) : Statement (.ldaIzp zp) := rfl
theorem rsvb3 : Statement .rsvb3 := rfl
theorem ldyZpx (zp : Byte) : Statement (.ldyZpx zp) := rfl
theorem ldaZpx (zp : Byte) : Statement (.ldaZpx zp) := rfl
theorem ldxZpy (zp : Byte) : Statement (.ldxZpy zp) := rfl
theorem rsvb7 : Statement .rsvb7 := rfl
theorem clv : Statement .clv := rfl
theorem ldaAby (addr : Addr) : Statement (.ldaAby addr) := rfl
theorem tsx : Statement .tsx := rfl
theorem rsvbb : Statement .rsvbb := rfl
theorem ldyAbx (addr : Addr) : Statement (.ldyAbx addr) := rfl
theorem ldaAbx (addr : Addr) : Statement (.ldaAbx addr) := rfl
theorem ldxAby (addr : Addr) : Statement (.ldxAby addr) := rfl
theorem rsvbf : Statement .rsvbf := rfl
theorem cpyImm (imm : Byte) : Statement (.cpyImm imm) := rfl
theorem cmpIzx (zp : Byte) : Statement (.cmpIzx zp) := rfl
theorem rsvc2 (ignored : Byte) : Statement (.rsvc2 ignored) := rfl
theorem rsvc3 : Statement .rsvc3 := rfl
theorem cpyZpg (zp : Byte) : Statement (.cpyZpg zp) := rfl
theorem cmpZpg (zp : Byte) : Statement (.cmpZpg zp) := rfl
theorem decZpg (zp : Byte) : Statement (.decZpg zp) := rfl
theorem rsvc7 : Statement .rsvc7 := rfl
theorem iny : Statement .iny := rfl
theorem cmpImm (imm : Byte) : Statement (.cmpImm imm) := rfl
theorem dex : Statement .dex := rfl
theorem rsvcb : Statement .rsvcb := rfl
theorem cpyAbs (addr : Addr) : Statement (.cpyAbs addr) := rfl
theorem cmpAbs (addr : Addr) : Statement (.cmpAbs addr) := rfl
theorem decAbs (addr : Addr) : Statement (.decAbs addr) := rfl
theorem rsvcf : Statement .rsvcf := rfl
theorem bne (off : Byte) : Statement (.bne off) := rfl
theorem cmpIzy (zp : Byte) : Statement (.cmpIzy zp) := rfl
theorem cmpIzp (zp : Byte) : Statement (.cmpIzp zp) := rfl
theorem rsvd3 : Statement .rsvd3 := rfl
theorem rsvd4 (ignored : Byte) : Statement (.rsvd4 ignored) := rfl
theorem cmpZpx (zp : Byte) : Statement (.cmpZpx zp) := rfl
theorem decZpx (zp : Byte) : Statement (.decZpx zp) := rfl
theorem rsvd7 : Statement .rsvd7 := rfl
theorem cld : Statement .cld := rfl
theorem cmpAby (addr : Addr) : Statement (.cmpAby addr) := rfl
theorem phx : Statement .phx := rfl
theorem rsvdb : Statement .rsvdb := rfl
theorem rsvdc (ignored : Addr) : Statement (.rsvdc ignored) := rfl
theorem cmpAbx (addr : Addr) : Statement (.cmpAbx addr) := rfl
theorem decAbx (addr : Addr) : Statement (.decAbx addr) := rfl
theorem rsvdf : Statement .rsvdf := rfl
theorem cpxImm (imm : Byte) : Statement (.cpxImm imm) := rfl
theorem sbcIzx (zp : Byte) : Statement (.sbcIzx zp) := rfl
theorem rsve2 (ignored : Byte) : Statement (.rsve2 ignored) := rfl
theorem rsve3 : Statement .rsve3 := rfl
theorem cpxZpg (zp : Byte) : Statement (.cpxZpg zp) := rfl
theorem sbcZpg (zp : Byte) : Statement (.sbcZpg zp) := rfl
theorem incZpg (zp : Byte) : Statement (.incZpg zp) := rfl
theorem rsve7 : Statement .rsve7 := rfl
theorem inx : Statement .inx := rfl
theorem sbcImm (imm : Byte) : Statement (.sbcImm imm) := rfl
theorem nop : Statement .nop := rfl
theorem rsveb : Statement .rsveb := rfl
theorem cpxAbs (addr : Addr) : Statement (.cpxAbs addr) := rfl
theorem sbcAbs (addr : Addr) : Statement (.sbcAbs addr) := rfl
theorem incAbs (addr : Addr) : Statement (.incAbs addr) := rfl
theorem rsvef : Statement .rsvef := rfl
theorem beq (off : Byte) : Statement (.beq off) := rfl
theorem sbcIzy (zp : Byte) : Statement (.sbcIzy zp) := rfl
theorem sbcIzp (zp : Byte) : Statement (.sbcIzp zp) := rfl
theorem rsvf3 : Statement .rsvf3 := rfl
theorem rsvf4 (ignored : Byte) : Statement (.rsvf4 ignored) := rfl
theorem sbcZpx (zp : Byte) : Statement (.sbcZpx zp) := rfl
theorem incZpx (zp : Byte) : Statement (.incZpx zp) := rfl
theorem rsvf7 : Statement .rsvf7 := rfl
theorem sed : Statement .sed := rfl
theorem sbcAby (addr : Addr) : Statement (.sbcAby addr) := rfl
theorem plx : Statement .plx := rfl
theorem rsvfb : Statement .rsvfb := rfl
theorem rsvfc (ignored : Addr) : Statement (.rsvfc ignored) := rfl
theorem sbcAbx (addr : Addr) : Statement (.sbcAbx addr) := rfl
theorem incAbx (addr : Addr) : Statement (.incAbx addr) := rfl
theorem rsvff : Statement .rsvff := rfl

end Sys2Proof.Laws.Encoding
end

