-- ==== Sys2Proof/Laws/Step.lean ====
section
/-! SUPPORT. What a step can do, said once: the four kinds of step (R15, R280), each with the condition under which
it is the one, and the few facts about a boundary that go with them. -/

namespace Sys2Proof.Machine

/-- The state at the coming boundary: its inputs used up and taken in. -/
def State.atBoundary (s : State) : State := ({ s with env := s.env.tail } : State).sample s.inputs

theorem State.atBoundary_eq (s : State) :
    s.atBoundary =
      { s with
        p := { s.p with v := s.p.v || s.inputs.soEdge }
        nmiPending := s.nmiPending || s.inputs.nmiEdge
        env := s.env.tail } := rfl

/-- A step with RES pulsed. -/
theorem step_res {s : State} (h : s.inputs.res = true) : step s = .next s.atBoundary.resSequence := by
  show (if s.inputs.res = true then _ else _) = _
  rw [if_pos h]
  rfl

/-- A step that takes an NMI. -/
theorem step_nmi {s : State} (h : s.inputs.res = false) (hn : (s.nmiPending || s.inputs.nmiEdge) = true) :
    step s = .next (s.atBoundary.nmiSequence.overflowIf s.inputs false) := by
  show (if s.inputs.res = true then _ else if (s.nmiPending || s.inputs.nmiEdge) = true then _ else _) = _
  rw [if_neg (by simp [h]), if_pos hn]
  rfl

/-- A step that takes an IRQ. -/
theorem step_irq {s : State} (h : s.inputs.res = false) (hn : (s.nmiPending || s.inputs.nmiEdge) = false)
    (hi : s.atBoundary.irqTaken s.inputs = true) :
    step s = .next ((s.atBoundary.afterChoice s.inputs).irqSequence.overflowIf s.inputs false) := by
  show (if s.inputs.res = true then _ else if (s.nmiPending || s.inputs.nmiEdge) = true then _
    else if s.atBoundary.irqTaken s.inputs = true then _ else _) = _
  rw [if_neg (by simp [h]), if_neg (by simp [hn]), if_pos hi]
  rfl

/-- A step that runs an instruction. -/
theorem step_instr {s : State} (h : s.inputs.res = false) (hn : (s.nmiPending || s.inputs.nmiEdge) = false)
    (hi : s.atBoundary.irqTaken s.inputs = false) :
    step s = runInstr s.inputs (s.atBoundary.afterChoice s.inputs) := by
  show (if s.inputs.res = true then _ else if (s.nmiPending || s.inputs.nmiEdge) = true then _
    else if s.atBoundary.irqTaken s.inputs = true then _ else _) = _
  rw [if_neg (by simp [h]), if_neg (by simp [hn]), if_neg (by simp [hi])]
  rfl

/-- What an SO edge during a step leaves alone. -/
theorem State.overflowIf_frame (s : State) (e : Inputs) (w : Bool) :
    ∃ (v : Bool) (k : Nat), s.overflowIf e w = { s with p := { s.p with v := v }, draws := k } := by
  unfold State.overflowIf
  split
  · rw [State.overflowDuring_eq]; exact ⟨_, _, rfl⟩
  · exact ⟨s.p.v, s.draws, rfl⟩

theorem State.overflowIf_quiet (s : State) {e : Inputs} (w : Bool) (h : e.soDuring = false) :
    s.overflowIf e w = s := by
  unfold State.overflowIf
  rw [if_neg (by simp [h])]

/-- A boundary counts one draw at most, and changes nothing else where it decides about IRQ. -/
theorem State.afterChoice_eq (s : State) (e : Inputs) :
    s.afterChoice e =
      { s with draws := if s.irqMay e && !s.irqMust e then s.draws + 1 else s.draws } := by
  unfold State.afterChoice
  split <;> rfl

/-- A step that runs an instruction whose `exec` completes. -/
theorem runInstr_next {s t : State} {e : Inputs} (h : exec s.fetch s.advance = .next t) :
    runInstr e s = .next ((t.overflowIf e (writesV s.fetch)).completed s.p.i) := by
  unfold runInstr
  rw [h]

/-- A run of no step is where it starts. -/
theorem core_run_zero (s : State) : Host.Core.run Sys2Proof.core 0 s = .next s := rfl

/-- A run of one step more, by the outcome of its first step. -/
theorem run_succ (M : Host.Core) (k : Nat) (s : M.State) :
    M.run (k + 1) s =
      match M.step s with
      | .next t => M.run k t
      | .fault r => .fault r
      | .refused r => .refused r := rfl

/-- A run of one step more, where its first step completes, is the run from the state after it. -/
theorem run_succ_of_next (M : Host.Core) {s t : M.State} (k : Nat) (h : M.step s = .next t) :
    M.run (k + 1) s = M.run k t := by
  rw [run_succ, h]

/-- The same of this machine. -/
theorem core_run_succ {s t : State} (k : Nat) (h : step s = .next t) :
    Host.Core.run Sys2Proof.core (k + 1) s = Host.Core.run Sys2Proof.core k t :=
  run_succ_of_next Sys2Proof.core k h

end Sys2Proof.Machine
end

