-- ==== Sys2Proof/Tests/Slice0.lean ====
section
/-! SUPPORT. The model's own tests: what `wellFormedBytes` and `decode` refuse; every op code of
spec/opcode_table.json decoded;
single steps with the results of spec/95_test_vectors.md; and, for every statement that has hypotheses, a
witness that meets them all together. -/

namespace Sys2Proof.Tests

open Sys2Proof.Machine Sys2Proof.Statements

/-! ### Byte strings that are not one instruction -/

/-- There is no instruction without an op code (R100). -/
theorem test_wf_refuses_nothing : wellFormedBytes [] = false := by decide

/-- LDA immediate lacks its operand (R101). -/
theorem test_wf_refuses_a_short_instruction : wellFormedBytes [0xA9] = false := by decide

/-- NOP with a byte too many (R101). -/
theorem test_wf_refuses_a_long_instruction : wellFormedBytes [0xEA, 0x00] = false := by decide

/-- LDA absolute with one of its two operand bytes (R101). -/
theorem test_wf_refuses_half_an_address : wellFormedBytes [0xAD, 0x00] = false := by decide

/-- A whole instruction of each length is accepted (R101). -/
theorem test_wf_accepts :
    (wellFormedBytes [0xEA] && wellFormedBytes [0xA9, 0x00] && wellFormedBytes [0xAD, 0x00, 0x00]) = true := by
  decide

theorem test_decode_refuses_nothing : decode [] = .error .noOpcode := rfl

theorem test_decode_refuses_a_missing_operand : decode [0xA9] = .error (.missingOperand 0xA9) := rfl

theorem test_decode_refuses_half_an_address : decode [0xAD, 0x00] = .error (.missingOperand 0xAD) := rfl

/-! ### Decoding -/

/-- Each byte string decodes to its instruction with nothing left over, and encodes back. -/
def agree (words : List (List Byte × Instr)) : Bool :=
  words.all fun w =>
    encode w.2 == w.1 &&
      match decode w.1 with
      | .ok (i, rest) => i == w.2 && rest == []
      | .error _ => false

/-- The bits of one op code of each family, as spec/opcode_table.json writes them: LDA immediate 10101001, STZ
absolute
10011100, TXS 10011010, ADC (zero page) 01110010, CMP zero page 11000101, INA 00011010, BIT immediate 10001001,
ROR A 01101010, BRA 10000000, JMP (absolute,X) 01111100, PHX 11011010, SEI 01111000, BRK 00000000, and a
reserved one 01011100. Operand bytes follow, the low byte first (R102). -/
theorem test_decode_bit_by_bit :
    agree
      [([0b10101001, 0b10000001], Instr.ldaImm 0x81), ([0b10011100, 0b00000001, 0b10000000], .stzAbs 0x8001),
        ([0b10011010], .txs), ([0b01110010, 0b11111110], .adcIzp 0xFE), ([0b11000101, 0b00000011], .cmpZpg 0x03),
        ([0b00011010], .ina), ([0b10001001, 0b11000000], .bitImm 0xC0), ([0b01101010], .rorAcc),
        ([0b10000000, 0b11111110], .bra 0xFE), ([0b01111100, 0b11111111, 0b00000000], .jmpIax 0x00FF),
        ([0b11011010], .phx), ([0b01111000], .sei), ([0b00000000], .brk),
        ([0b01011100, 0b00000010, 0b00000001], .rsv5c 0x0102)] = true := by
  decide

/-! The op code map, row by row (R105, R112): the words are those of spec/opcode_table.json, with the operand
bytes 34 and 12. -/

theorem test_decode_row_0 :
    agree
      [([0x00], Instr.brk), ([0x01, 0x34], .oraIzx 0x34), ([0x02, 0x34], .rsv02 0x34), ([0x03], .rsv03),
      ([0x04, 0x34], .tsbZpg 0x34), ([0x05, 0x34], .oraZpg 0x34), ([0x06, 0x34], .aslZpg 0x34), ([0x07],
      .rsv07), ([0x08], .php), ([0x09, 0x34], .oraImm 0x34), ([0x0A], .aslAcc), ([0x0B], .rsv0b),
      ([0x0C, 0x34, 0x12], .tsbAbs 0x1234), ([0x0D, 0x34, 0x12], .oraAbs 0x1234), ([0x0E, 0x34, 0x12],
      .aslAbs 0x1234), ([0x0F], .rsv0f)] = true := by
  decide

theorem test_decode_row_1 :
    agree
      [([0x10, 0x34], Instr.bpl 0x34), ([0x11, 0x34], .oraIzy 0x34), ([0x12, 0x34], .oraIzp 0x34),
      ([0x13], .rsv13), ([0x14, 0x34], .trbZpg 0x34), ([0x15, 0x34], .oraZpx 0x34), ([0x16, 0x34],
      .aslZpx 0x34), ([0x17], .rsv17), ([0x18], .clc), ([0x19, 0x34, 0x12], .oraAby 0x1234), ([0x1A],
      .ina), ([0x1B], .rsv1b), ([0x1C, 0x34, 0x12], .trbAbs 0x1234), ([0x1D, 0x34, 0x12], .oraAbx
      0x1234), ([0x1E, 0x34, 0x12], .aslAbx 0x1234), ([0x1F], .rsv1f)] = true := by
  decide

theorem test_decode_row_2 :
    agree
      [([0x20, 0x34, 0x12], Instr.jsr 0x1234), ([0x21, 0x34], .andIzx 0x34), ([0x22, 0x34], .rsv22 0x34),
      ([0x23], .rsv23), ([0x24, 0x34], .bitZpg 0x34), ([0x25, 0x34], .andZpg 0x34), ([0x26, 0x34],
      .rolZpg 0x34), ([0x27], .rsv27), ([0x28], .plp), ([0x29, 0x34], .andImm 0x34), ([0x2A], .rolAcc),
      ([0x2B], .rsv2b), ([0x2C, 0x34, 0x12], .bitAbs 0x1234), ([0x2D, 0x34, 0x12], .andAbs 0x1234),
      ([0x2E, 0x34, 0x12], .rolAbs 0x1234), ([0x2F], .rsv2f)] = true := by
  decide

theorem test_decode_row_3 :
    agree
      [([0x30, 0x34], Instr.bmi 0x34), ([0x31, 0x34], .andIzy 0x34), ([0x32, 0x34], .andIzp 0x34),
      ([0x33], .rsv33), ([0x34, 0x34], .bitZpx 0x34), ([0x35, 0x34], .andZpx 0x34), ([0x36, 0x34],
      .rolZpx 0x34), ([0x37], .rsv37), ([0x38], .sec), ([0x39, 0x34, 0x12], .andAby 0x1234), ([0x3A],
      .dea), ([0x3B], .rsv3b), ([0x3C, 0x34, 0x12], .bitAbx 0x1234), ([0x3D, 0x34, 0x12], .andAbx
      0x1234), ([0x3E, 0x34, 0x12], .rolAbx 0x1234), ([0x3F], .rsv3f)] = true := by
  decide

theorem test_decode_row_4 :
    agree
      [([0x40], Instr.rti), ([0x41, 0x34], .eorIzx 0x34), ([0x42, 0x34], .rsv42 0x34), ([0x43], .rsv43),
      ([0x44, 0x34], .rsv44 0x34), ([0x45, 0x34], .eorZpg 0x34), ([0x46, 0x34], .lsrZpg 0x34), ([0x47],
      .rsv47), ([0x48], .pha), ([0x49, 0x34], .eorImm 0x34), ([0x4A], .lsrAcc), ([0x4B], .rsv4b),
      ([0x4C, 0x34, 0x12], .jmpAbs 0x1234), ([0x4D, 0x34, 0x12], .eorAbs 0x1234), ([0x4E, 0x34, 0x12],
      .lsrAbs 0x1234), ([0x4F], .rsv4f)] = true := by
  decide

theorem test_decode_row_5 :
    agree
      [([0x50, 0x34], Instr.bvc 0x34), ([0x51, 0x34], .eorIzy 0x34), ([0x52, 0x34], .eorIzp 0x34),
      ([0x53], .rsv53), ([0x54, 0x34], .rsv54 0x34), ([0x55, 0x34], .eorZpx 0x34), ([0x56, 0x34],
      .lsrZpx 0x34), ([0x57], .rsv57), ([0x58], .cli), ([0x59, 0x34, 0x12], .eorAby 0x1234), ([0x5A],
      .phy), ([0x5B], .rsv5b), ([0x5C, 0x34, 0x12], .rsv5c 0x1234), ([0x5D, 0x34, 0x12], .eorAbx
      0x1234), ([0x5E, 0x34, 0x12], .lsrAbx 0x1234), ([0x5F], .rsv5f)] = true := by
  decide

theorem test_decode_row_6 :
    agree
      [([0x60], Instr.rts), ([0x61, 0x34], .adcIzx 0x34), ([0x62, 0x34], .rsv62 0x34), ([0x63], .rsv63),
      ([0x64, 0x34], .stzZpg 0x34), ([0x65, 0x34], .adcZpg 0x34), ([0x66, 0x34], .rorZpg 0x34), ([0x67],
      .rsv67), ([0x68], .pla), ([0x69, 0x34], .adcImm 0x34), ([0x6A], .rorAcc), ([0x6B], .rsv6b),
      ([0x6C, 0x34, 0x12], .jmpInd 0x1234), ([0x6D, 0x34, 0x12], .adcAbs 0x1234), ([0x6E, 0x34, 0x12],
      .rorAbs 0x1234), ([0x6F], .rsv6f)] = true := by
  decide

theorem test_decode_row_7 :
    agree
      [([0x70, 0x34], Instr.bvs 0x34), ([0x71, 0x34], .adcIzy 0x34), ([0x72, 0x34], .adcIzp 0x34),
      ([0x73], .rsv73), ([0x74, 0x34], .stzZpx 0x34), ([0x75, 0x34], .adcZpx 0x34), ([0x76, 0x34],
      .rorZpx 0x34), ([0x77], .rsv77), ([0x78], .sei), ([0x79, 0x34, 0x12], .adcAby 0x1234), ([0x7A],
      .ply), ([0x7B], .rsv7b), ([0x7C, 0x34, 0x12], .jmpIax 0x1234), ([0x7D, 0x34, 0x12], .adcAbx
      0x1234), ([0x7E, 0x34, 0x12], .rorAbx 0x1234), ([0x7F], .rsv7f)] = true := by
  decide

theorem test_decode_row_8 :
    agree
      [([0x80, 0x34], Instr.bra 0x34), ([0x81, 0x34], .staIzx 0x34), ([0x82, 0x34], .rsv82 0x34),
      ([0x83], .rsv83), ([0x84, 0x34], .styZpg 0x34), ([0x85, 0x34], .staZpg 0x34), ([0x86, 0x34],
      .stxZpg 0x34), ([0x87], .rsv87), ([0x88], .dey), ([0x89, 0x34], .bitImm 0x34), ([0x8A], .txa),
      ([0x8B], .rsv8b), ([0x8C, 0x34, 0x12], .styAbs 0x1234), ([0x8D, 0x34, 0x12], .staAbs 0x1234),
      ([0x8E, 0x34, 0x12], .stxAbs 0x1234), ([0x8F], .rsv8f)] = true := by
  decide

theorem test_decode_row_9 :
    agree
      [([0x90, 0x34], Instr.bcc 0x34), ([0x91, 0x34], .staIzy 0x34), ([0x92, 0x34], .staIzp 0x34),
      ([0x93], .rsv93), ([0x94, 0x34], .styZpx 0x34), ([0x95, 0x34], .staZpx 0x34), ([0x96, 0x34],
      .stxZpy 0x34), ([0x97], .rsv97), ([0x98], .tya), ([0x99, 0x34, 0x12], .staAby 0x1234), ([0x9A],
      .txs), ([0x9B], .rsv9b), ([0x9C, 0x34, 0x12], .stzAbs 0x1234), ([0x9D, 0x34, 0x12], .staAbx
      0x1234), ([0x9E, 0x34, 0x12], .stzAbx 0x1234), ([0x9F], .rsv9f)] = true := by
  decide

theorem test_decode_row_a :
    agree
      [([0xA0, 0x34], Instr.ldyImm 0x34), ([0xA1, 0x34], .ldaIzx 0x34), ([0xA2, 0x34], .ldxImm 0x34),
      ([0xA3], .rsva3), ([0xA4, 0x34], .ldyZpg 0x34), ([0xA5, 0x34], .ldaZpg 0x34), ([0xA6, 0x34],
      .ldxZpg 0x34), ([0xA7], .rsva7), ([0xA8], .tay), ([0xA9, 0x34], .ldaImm 0x34), ([0xAA], .tax),
      ([0xAB], .rsvab), ([0xAC, 0x34, 0x12], .ldyAbs 0x1234), ([0xAD, 0x34, 0x12], .ldaAbs 0x1234),
      ([0xAE, 0x34, 0x12], .ldxAbs 0x1234), ([0xAF], .rsvaf)] = true := by
  decide

theorem test_decode_row_b :
    agree
      [([0xB0, 0x34], Instr.bcs 0x34), ([0xB1, 0x34], .ldaIzy 0x34), ([0xB2, 0x34], .ldaIzp 0x34),
      ([0xB3], .rsvb3), ([0xB4, 0x34], .ldyZpx 0x34), ([0xB5, 0x34], .ldaZpx 0x34), ([0xB6, 0x34],
      .ldxZpy 0x34), ([0xB7], .rsvb7), ([0xB8], .clv), ([0xB9, 0x34, 0x12], .ldaAby 0x1234), ([0xBA],
      .tsx), ([0xBB], .rsvbb), ([0xBC, 0x34, 0x12], .ldyAbx 0x1234), ([0xBD, 0x34, 0x12], .ldaAbx
      0x1234), ([0xBE, 0x34, 0x12], .ldxAby 0x1234), ([0xBF], .rsvbf)] = true := by
  decide

theorem test_decode_row_c :
    agree
      [([0xC0, 0x34], Instr.cpyImm 0x34), ([0xC1, 0x34], .cmpIzx 0x34), ([0xC2, 0x34], .rsvc2 0x34),
      ([0xC3], .rsvc3), ([0xC4, 0x34], .cpyZpg 0x34), ([0xC5, 0x34], .cmpZpg 0x34), ([0xC6, 0x34],
      .decZpg 0x34), ([0xC7], .rsvc7), ([0xC8], .iny), ([0xC9, 0x34], .cmpImm 0x34), ([0xCA], .dex),
      ([0xCB], .rsvcb), ([0xCC, 0x34, 0x12], .cpyAbs 0x1234), ([0xCD, 0x34, 0x12], .cmpAbs 0x1234),
      ([0xCE, 0x34, 0x12], .decAbs 0x1234), ([0xCF], .rsvcf)] = true := by
  decide

theorem test_decode_row_d :
    agree
      [([0xD0, 0x34], Instr.bne 0x34), ([0xD1, 0x34], .cmpIzy 0x34), ([0xD2, 0x34], .cmpIzp 0x34),
      ([0xD3], .rsvd3), ([0xD4, 0x34], .rsvd4 0x34), ([0xD5, 0x34], .cmpZpx 0x34), ([0xD6, 0x34],
      .decZpx 0x34), ([0xD7], .rsvd7), ([0xD8], .cld), ([0xD9, 0x34, 0x12], .cmpAby 0x1234), ([0xDA],
      .phx), ([0xDB], .rsvdb), ([0xDC, 0x34, 0x12], .rsvdc 0x1234), ([0xDD, 0x34, 0x12], .cmpAbx
      0x1234), ([0xDE, 0x34, 0x12], .decAbx 0x1234), ([0xDF], .rsvdf)] = true := by
  decide

theorem test_decode_row_e :
    agree
      [([0xE0, 0x34], Instr.cpxImm 0x34), ([0xE1, 0x34], .sbcIzx 0x34), ([0xE2, 0x34], .rsve2 0x34),
      ([0xE3], .rsve3), ([0xE4, 0x34], .cpxZpg 0x34), ([0xE5, 0x34], .sbcZpg 0x34), ([0xE6, 0x34],
      .incZpg 0x34), ([0xE7], .rsve7), ([0xE8], .inx), ([0xE9, 0x34], .sbcImm 0x34), ([0xEA], .nop),
      ([0xEB], .rsveb), ([0xEC, 0x34, 0x12], .cpxAbs 0x1234), ([0xED, 0x34, 0x12], .sbcAbs 0x1234),
      ([0xEE, 0x34, 0x12], .incAbs 0x1234), ([0xEF], .rsvef)] = true := by
  decide

theorem test_decode_row_f :
    agree
      [([0xF0, 0x34], Instr.beq 0x34), ([0xF1, 0x34], .sbcIzy 0x34), ([0xF2, 0x34], .sbcIzp 0x34),
      ([0xF3], .rsvf3), ([0xF4, 0x34], .rsvf4 0x34), ([0xF5, 0x34], .sbcZpx 0x34), ([0xF6, 0x34],
      .incZpx 0x34), ([0xF7], .rsvf7), ([0xF8], .sed), ([0xF9, 0x34, 0x12], .sbcAby 0x1234), ([0xFA],
      .plx), ([0xFB], .rsvfb), ([0xFC, 0x34, 0x12], .rsvfc 0x1234), ([0xFD, 0x34, 0x12], .sbcAbx
      0x1234), ([0xFE, 0x34, 0x12], .incAbx 0x1234), ([0xFF], .rsvff)] = true := by
  decide

/-- The table gives each row its first byte; the operand bytes above it are zero. -/
theorem test_decode_table_words :
    decodeTableWord 8 0xA9 = some (.ldaImm 0x00) ∧ decodeTableWord 8 0x7C = some (.jmpIax 0x0000) ∧
      decodeTableWord 8 0x00 = some .brk := by
  decide

/-- The placed word is what the very next step runs, from reset: LDX immediate 00 sets Z. -/
theorem test_with_fetch_word_runs :
    (match step (State.reset.withFetchWord 8 0xA2) with
      | .next t => t.p.z && t.pc == 0x0002
      | _ => false) = true := by
  decide

/-! ### One step at a time -/

/-- The default start state of spec/95_test_vectors.md. -/
def start : State :=
  { State.reset with sp := 0xFF, p := ⟨false, false, false, false, false, false⟩, iBefore := false }

/-- Stores bytes at ascending addresses. -/
def stored : Addr → List Byte → State → State
  | _, [], s => s
  | a, b :: bs, s => stored (a + 1) bs (s.write a b)

/-- The state with an instruction placed at `pc`, and other bytes of memory set. -/
def placed (pc : Addr) (code : List Byte) (bytes : List (Addr × Byte)) (s : State) : State :=
  bytes.foldl (fun s w => s.write w.1 w.2) (stored pc code { s with pc := pc })

/-- What is seen of the state after one step. -/
def look {α : Type} (f : State → α) (s : State) : Option α :=
  match step s with
  | .next t => some (f t)
  | _ => none

/-- LDA $F0,X: V4 of spec/95_test_vectors.md. -/
theorem test_lda_zpx_wraps_in_page_zero :
    look (fun t => t.a)
      (placed 0x1000 [0xB5, 0xF0] [(0x0010, 0x44), (0x0110, 0x99)] { start with x := 0x20 }) = some 0x44 := by
  decide

/-- LDA #$80: V19 of spec/95_test_vectors.md. -/
theorem test_lda_sets_n_and_leaves_c :
    look (fun t => (t.p.n, t.p.c))
      (placed 0x1000 [0xA9, 0x80] [] { start with p := ⟨false, true, false, false, true, true⟩ }) = some (true,
        true) := by
  decide

/-- LDX $FF,Y: V5 of spec/95_test_vectors.md. -/
theorem test_ldx_zpy_wraps_in_page_zero :
    look (fun t => t.x)
      (placed 0x1000 [0xB6, 0xFF] [(0x0000, 0x33), (0x0100, 0x99)] { start with y := 0x01 }) = some 0x33 := by
  decide

/-- LDX $2000,Y: V21 of spec/95_test_vectors.md. -/
theorem test_ldx_aby_zero_sets_z :
    look (fun t => (t.x, t.p.z))
      (placed 0x1000 [0xBE, 0x00, 0x20] [(0x2003, 0x00)] { start with x := 0x09, y := 0x03 }) = some (0x00,
        true) := by
  decide

/-- LDY $10,X: V22 of spec/95_test_vectors.md. -/
theorem test_ldy_zpx :
    look (fun t => t.y)
      (placed 0x1000 [0xB4, 0x10] [(0x0011, 0x7F)] { start with x := 0x01 }) = some 0x7F := by
  decide

/-- LDA $FFFF,X: V7 of spec/95_test_vectors.md. -/
theorem test_lda_abx_wraps_past_ffff :
    look (fun t => t.a)
      (placed 0x1000 [0xBD, 0xFF, 0xFF] [(0x0001, 0x66)] { start with x := 0x02 }) = some 0x66 := by
  decide

/-- LDA $2000,Y: V8 of spec/95_test_vectors.md. -/
theorem test_lda_aby_adds_y_unsigned :
    look (fun t => t.a)
      (placed 0x1000 [0xB9, 0x00, 0x20] [(0x20FF, 0x55)] { start with y := 0xFF }) = some 0x55 := by
  decide

/-- LDA ($20,X): V9 of spec/95_test_vectors.md. -/
theorem test_lda_izx_pointer :
    look (fun t => t.a)
      (placed 0x1000 [0xA1, 0x20] [(0x0024, 0x74), (0x0025, 0x20), (0x2074, 0x12)] { start with x := 0x04 }) =
        some 0x12 := by
  decide

/-- LDA ($FE,X): V10 of spec/95_test_vectors.md. -/
theorem test_lda_izx_pointer_wraps :
    look (fun t => t.a)
      (placed 0x1000 [0xA1, 0xFE] [(0x0000, 0x12), (0x00FF, 0x34), (0x0100, 0x99), (0x1234, 0x13)] { start with
        x := 0x01 }) = some 0x13 := by
  decide

/-- LDA ($FF),Y: V13 of spec/95_test_vectors.md. -/
theorem test_lda_izy_pointer_and_sum_wrap :
    look (fun t => t.a)
      (placed 0x1000 [0xB1, 0xFF] [(0x0000, 0xFF), (0x0005, 0x5A), (0x00FF, 0xF0), (0x0100, 0x99)] { start with
        y := 0x15 }) = some 0x5A := by
  decide

/-- LDA ($FF): V15 of spec/95_test_vectors.md. -/
theorem test_lda_izp_pointer_wraps :
    look (fun t => t.a)
      (placed 0x1000 [0xB2, 0xFF] [(0x0000, 0x30), (0x00FF, 0x00), (0x0100, 0x99), (0x3000, 0x6B)] start) = some
        0x6B := by
  decide

/-- STA ($22),Y: V24 of spec/95_test_vectors.md. -/
theorem test_sta_izy_stores :
    look (fun t => t.read 0x4108)
      (placed 0x1000 [0x91, 0x22] [(0x0022, 0xF8), (0x0023, 0x40)] { start with a := 0xC3, y := 0x10 }) = some
        0xC3 := by
  decide

/-- STA ($30): V25 of spec/95_test_vectors.md. -/
theorem test_sta_izp_stores :
    look (fun t => t.read 0x0200)
      (placed 0x1000 [0x92, 0x30] [(0x0030, 0x00), (0x0031, 0x02)] { start with a := 0x99 }) = some 0x99 := by
  decide

/-- STX $10,Y: V26 of spec/95_test_vectors.md. -/
theorem test_stx_zpy_stores :
    look (fun t => t.read 0x0012)
      (placed 0x1000 [0x96, 0x10] [] { start with x := 0x03, y := 0x02 }) = some 0x03 := by
  decide

/-- STY $00: V27 of spec/95_test_vectors.md. -/
theorem test_sty_zpg_stores :
    look (fun t => t.read 0x0000)
      (placed 0x1000 [0x84, 0x00] [] { start with y := 0x80 }) = some 0x80 := by
  decide

/-- STZ $3000,X: V28 of spec/95_test_vectors.md. -/
theorem test_stz_abx_stores_zero :
    look (fun t => t.read 0x3005)
      (placed 0x1000 [0x9E, 0x00, 0x30] [(0x3005, 0xEE)] { start with a := 0x77, x := 0x05 }) = some 0x00 := by
  decide

/-- TAX: V30 of spec/95_test_vectors.md. -/
theorem test_tax_zero :
    look (fun t => (t.x, t.p.z))
      (placed 0x1000 [0xAA] [] { start with x := 0x05 }) = some (0x00, true) := by
  decide

/-- TAY: V31 of spec/95_test_vectors.md. -/
theorem test_tay_negative :
    look (fun t => (t.y, t.p.n))
      (placed 0x1000 [0xA8] [] { start with a := 0x90 }) = some (0x90, true) := by
  decide

/-- TXA: V32 of spec/95_test_vectors.md. -/
theorem test_txa_positive :
    look (fun t => (t.a, t.p.n))
      (placed 0x1000 [0x8A] [] { start with a := 0xFF, x := 0x7F, p := ⟨true, false, false, false, false, false⟩
        }) = some (0x7F, false) := by
  decide

/-- TYA: V33 of spec/95_test_vectors.md. -/
theorem test_tya_zero :
    look (fun t => (t.a, t.p.z))
      (placed 0x1000 [0x98] [] { start with a := 0x09 }) = some (0x00, true) := by
  decide

/-- TSX: V34 of spec/95_test_vectors.md. -/
theorem test_tsx_negative :
    look (fun t => (t.x, t.p.n))
      (placed 0x1000 [0xBA] [] { start with sp := 0xFD }) = some (0xFD, true) := by
  decide

/-- TXS: V35 of spec/95_test_vectors.md. -/
theorem test_txs_sets_no_flag :
    look (fun t => (t.sp, t.p.n, t.p.z))
      (placed 0x1000 [0x9A] [] { start with p := ⟨true, false, false, false, false, false⟩ }) = some (0x00,
        true, false) := by
  decide

/-- ADC #$80: V39 of spec/95_test_vectors.md. -/
theorem test_adc_signed_overflow_and_carry :
    look (fun t => (t.a, t.p.v, t.p.c))
      (placed 0x1000 [0x69, 0x80] [] { start with a := 0x80 }) = some (0x00, true, true) := by
  decide

/-- ADC #$FF: V40 of spec/95_test_vectors.md. -/
theorem test_adc_carry_in_and_out :
    look (fun t => (t.a, t.p.v, t.p.c))
      (placed 0x1000 [0x69, 0xFF] [] { start with a := 0xFF, p := ⟨false, false, false, false, false, true⟩ }) =
        some (0xFF, false, true) := by
  decide

/-- ADC ($50): V43 of spec/95_test_vectors.md. -/
theorem test_adc_izp :
    look (fun t => t.a)
      (placed 0x1000 [0x72, 0x50] [(0x0050, 0x00), (0x0051, 0x20), (0x2000, 0x01)] { start with a := 0x01, p :=
        ⟨false, false, false, false, false, true⟩ }) = some 0x03 := by
  decide

/-- SBC #$01: V46 of spec/95_test_vectors.md. -/
theorem test_sbc_signed_overflow :
    look (fun t => (t.a, t.p.v, t.p.c))
      (placed 0x1000 [0xE9, 0x01] [] { start with a := 0x80, p := ⟨false, false, false, false, false, true⟩ }) =
        some (0x7F, true, true) := by
  decide

/-- SBC #$00: V49 of spec/95_test_vectors.md. -/
theorem test_sbc_borrow_in_and_out :
    look (fun t => (t.a, t.p.c))
      (placed 0x1000 [0xE9, 0x00] [] start) = some (0xFF, false) := by
  decide

/-- ADC #$46: V53 of spec/95_test_vectors.md. -/
theorem test_adc_decimal_with_carry :
    look (fun t => (t.a, t.p.c))
      (placed 0x1000 [0x69, 0x46] [] { start with a := 0x58, p := ⟨false, false, true, false, false, true⟩ }) =
        some (0x05, true) := by
  decide

/-- SBC #$10: V62 of spec/95_test_vectors.md. -/
theorem test_sbc_decimal_with_borrow :
    look (fun t => (t.a, t.p.c))
      (placed 0x1000 [0xE9, 0x10] [] { start with a := 0x10, p := ⟨false, false, true, false, false, false⟩ }) =
        some (0x99, false) := by
  decide

/-- CMP #$00: V67 of spec/95_test_vectors.md. -/
theorem test_cmp_unsigned_order_and_n :
    look (fun t => (t.p.n, t.p.c))
      (placed 0x1000 [0xC9, 0x00] [] { start with a := 0x80 }) = some (true, true) := by
  decide

/-- CMP #$80: V68 of spec/95_test_vectors.md. -/
theorem test_cmp_ignores_d :
    look (fun t => (t.p.n, t.p.z, t.p.c))
      (placed 0x1000 [0xC9, 0x80] [] { start with a := 0x7F, p := ⟨false, false, true, false, false, false⟩ }) =
        some (true, false, false) := by
  decide

/-- CPX $0200: V70 of spec/95_test_vectors.md. -/
theorem test_cpx_less :
    look (fun t => (t.p.c, t.p.n))
      (placed 0x1000 [0xEC, 0x00, 0x02] [(0x0200, 0xFF)] start) = some (false, false) := by
  decide

/-- CPX #$10: V69 of spec/95_test_vectors.md. -/
theorem test_cpx_equal :
    look (fun t => (t.p.z, t.p.c))
      (placed 0x1000 [0xE0, 0x10] [] { start with x := 0x10 }) = some (true, true) := by
  decide

/-- CPY #$01: V71 of spec/95_test_vectors.md. -/
theorem test_cpy_less :
    look (fun t => (t.p.n, t.p.c))
      (placed 0x1000 [0xC0, 0x01] [] start) = some (true, false) := by
  decide

/-- INC $10: V72 of spec/95_test_vectors.md. -/
theorem test_inc_zpg_wraps :
    look (fun t => (t.read 0x0010, t.p.z, t.p.c))
      (placed 0x1000 [0xE6, 0x10] [(0x0010, 0xFF)] { start with p := ⟨false, false, false, false, false, true⟩
        }) = some (0x00, true, true) := by
  decide

/-- INC $0200,X: V73 of spec/95_test_vectors.md. -/
theorem test_inc_abx_sets_n :
    look (fun t => (t.read 0x0201, t.p.n))
      (placed 0x1000 [0xFE, 0x00, 0x02] [(0x0201, 0x7F)] { start with x := 0x01 }) = some (0x80, true) := by
  decide

/-- DEC $0200: V74 of spec/95_test_vectors.md. -/
theorem test_dec_abs_to_zero :
    look (fun t => (t.read 0x0200, t.p.z))
      (placed 0x1000 [0xCE, 0x00, 0x02] [(0x0200, 0x01)] start) = some (0x00, true) := by
  decide

/-- DEC $10,X: V75 of spec/95_test_vectors.md. -/
theorem test_dec_zpx_wraps :
    look (fun t => (t.read 0x000F, t.p.n))
      (placed 0x1000 [0xD6, 0x10] [(0x000F, 0x00)] { start with x := 0xFF }) = some (0xFF, true) := by
  decide

/-- INA: V77 of spec/95_test_vectors.md. -/
theorem test_ina_wraps_without_carry :
    look (fun t => (t.a, t.p.z, t.p.c))
      (placed 0x1000 [0x1A] [] { start with a := 0xFF }) = some (0x00, true, false) := by
  decide

/-- DEA: V78 of spec/95_test_vectors.md. -/
theorem test_dea_wraps :
    look (fun t => (t.a, t.p.n))
      (placed 0x1000 [0x3A] [] start) = some (0xFF, true) := by
  decide

/-- INX: V79 of spec/95_test_vectors.md. -/
theorem test_inx_wraps :
    look (fun t => (t.x, t.p.z))
      (placed 0x1000 [0xE8] [] { start with x := 0xFF }) = some (0x00, true) := by
  decide

/-- INY: V80 of spec/95_test_vectors.md. -/
theorem test_iny_sets_n :
    look (fun t => (t.y, t.p.n))
      (placed 0x1000 [0xC8] [] { start with y := 0x7F }) = some (0x80, true) := by
  decide

/-- DEX: V81 of spec/95_test_vectors.md. -/
theorem test_dex_to_zero :
    look (fun t => (t.x, t.p.z))
      (placed 0x1000 [0xCA] [] { start with x := 0x01 }) = some (0x00, true) := by
  decide

/-- DEY: V82 of spec/95_test_vectors.md. -/
theorem test_dey_wraps :
    look (fun t => (t.y, t.p.n))
      (placed 0x1000 [0x88] [] start) = some (0xFF, true) := by
  decide

/-- AND #$3C: V83 of spec/95_test_vectors.md. -/
theorem test_and_imm :
    look (fun t => t.a)
      (placed 0x1000 [0x29, 0x3C] [] { start with a := 0xF0 }) = some 0x30 := by
  decide

/-- ORA #$80: V85 of spec/95_test_vectors.md. -/
theorem test_ora_imm_sets_n :
    look (fun t => (t.a, t.p.n))
      (placed 0x1000 [0x09, 0x80] [] { start with a := 0x0F }) = some (0x8F, true) := by
  decide

/-- ORA ($12): V86 of spec/95_test_vectors.md. -/
theorem test_ora_izp_zero_sets_z :
    look (fun t => (t.a, t.p.z))
      (placed 0x1000 [0x12, 0x12] [(0x0012, 0x00), (0x0013, 0x03), (0x0300, 0x00)] start) = some (0x00, true) :=
        by
  decide

/-- EOR $45: V88 of spec/95_test_vectors.md. -/
theorem test_eor_zpg_zero :
    look (fun t => (t.a, t.p.z))
      (placed 0x1000 [0x45, 0x45] [(0x0045, 0x5A)] { start with a := 0x5A }) = some (0x00, true) := by
  decide

/-- EOR #$FF: V87 of spec/95_test_vectors.md. -/
theorem test_eor_imm_complements :
    look (fun t => (t.a, t.p.n))
      (placed 0x1000 [0x49, 0xFF] [] { start with a := 0xAA }) = some (0x55, false) := by
  decide

/-- BIT $20: V89 of spec/95_test_vectors.md. -/
theorem test_bit_zpg_copies_bits_seven_and_six :
    look (fun t => (t.p.n, t.p.v, t.p.z))
      (placed 0x1000 [0x24, 0x20] [(0x0020, 0xC0)] { start with a := 0x01 }) = some (true, true, true) := by
  decide

/-- BIT $3000,X: V91 of spec/95_test_vectors.md. -/
theorem test_bit_abx :
    look (fun t => (t.a, t.p.n, t.p.v, t.p.z))
      (placed 0x1000 [0x3C, 0x00, 0x30] [(0x3001, 0x80)] { start with a := 0x80, x := 0x01 }) = some (0x80,
        true, false, false) := by
  decide

/-- BIT #$C0: V94 of spec/95_test_vectors.md. -/
theorem test_bit_imm_leaves_n_and_v :
    look (fun t => (t.p.n, t.p.v, t.p.z))
      (placed 0x1000 [0x89, 0xC0] [] { start with a := 0xC0 }) = some (false, false, false) := by
  decide

/-- TSB $40: V95 of spec/95_test_vectors.md. -/
theorem test_tsb_sets_bits :
    look (fun t => (t.read 0x0040, t.p.z))
      (placed 0x1000 [0x04, 0x40] [(0x0040, 0x01)] { start with a := 0x81 }) = some (0x81, false) := by
  decide

/-- TSB $0200: V96 of spec/95_test_vectors.md. -/
theorem test_tsb_abs_leaves_n_and_v :
    look (fun t => (t.read 0x0200, t.p.z, t.p.v))
      (placed 0x1000 [0x0C, 0x00, 0x02] [(0x0200, 0x0E)] { start with a := 0x01, p := ⟨true, true, false, false,
        false, true⟩ }) = some (0x0F, true, true) := by
  decide

/-- TRB $1000: V97 of spec/95_test_vectors.md. -/
theorem test_trb_clears_bits :
    look (fun t => (t.read 0x1000, t.p.z))
      (placed 0x2000 [0x1C, 0x00, 0x10] [(0x1000, 0x3C)] { start with a := 0x0F }) = some (0x30, false) := by
  decide

/-- TRB $14: V98 of spec/95_test_vectors.md. -/
theorem test_trb_zero_test :
    look (fun t => (t.read 0x0014, t.p.z))
      (placed 0x1000 [0x14, 0x14] [(0x0014, 0xF0)] { start with a := 0x0F }) = some (0xF0, true) := by
  decide

/-- ASL A: V100 of spec/95_test_vectors.md. -/
theorem test_asl_a_to_carry :
    look (fun t => (t.a, t.p.z, t.p.c))
      (placed 0x1000 [0x0A] [] { start with a := 0x80 }) = some (0x00, true, true) := by
  decide

/-- ASL $10,X: V101 of spec/95_test_vectors.md. -/
theorem test_asl_zpx :
    look (fun t => (t.read 0x0012, t.p.c))
      (placed 0x1000 [0x16, 0x10] [(0x0012, 0xFF)] { start with x := 0x02 }) = some (0xFE, true) := by
  decide

/-- LSR $30: V102 of spec/95_test_vectors.md. -/
theorem test_lsr_zpg :
    look (fun t => (t.read 0x0030, t.p.c))
      (placed 0x1000 [0x46, 0x30] [(0x0030, 0x03)] start) = some (0x01, true) := by
  decide

/-- LSR A: V103 of spec/95_test_vectors.md. -/
theorem test_lsr_a_clears_n :
    look (fun t => (t.a, t.p.n, t.p.c))
      (placed 0x1000 [0x4A] [] { start with a := 0x01, p := ⟨true, false, false, false, false, false⟩ }) = some
        (0x00, false, true) := by
  decide

/-- ROL A: V104 of spec/95_test_vectors.md. -/
theorem test_rol_a_carry_in :
    look (fun t => (t.a, t.p.c))
      (placed 0x1000 [0x2A] [] { start with a := 0x40, p := ⟨false, false, false, false, false, true⟩ }) = some
        (0x81, false) := by
  decide

/-- ROL $0200,X: V106 of spec/95_test_vectors.md. -/
theorem test_rol_abx :
    look (fun t => (t.read 0x02FF, t.p.c))
      (placed 0x1000 [0x3E, 0x00, 0x02] [(0x02FF, 0x00)] { start with x := 0xFF, p := ⟨false, false, false,
        false, false, true⟩ }) = some (0x01, false) := by
  decide

/-- ROR A: V107 of spec/95_test_vectors.md. -/
theorem test_ror_a_carry_in :
    look (fun t => (t.a, t.p.c))
      (placed 0x1000 [0x6A] [] { start with a := 0x02, p := ⟨false, false, false, false, false, true⟩ }) = some
        (0x81, false) := by
  decide

/-- ROR $0200: V109 of spec/95_test_vectors.md. -/
theorem test_ror_abs :
    look (fun t => (t.read 0x0200, t.p.n))
      (placed 0x1000 [0x6E, 0x00, 0x02] [(0x0200, 0x00)] { start with p := ⟨false, false, false, false, false,
        true⟩ }) = some (0x80, true) := by
  decide

/-- BCC +16: V110 of spec/95_test_vectors.md. -/
theorem test_bcc_taken :
    look (fun t => t.pc)
      (placed 0x2000 [0x90, 0x10] [] start) = some 0x2012 := by
  decide

/-- BCC +16: V111 of spec/95_test_vectors.md. -/
theorem test_bcc_not_taken :
    look (fun t => t.pc)
      (placed 0x2000 [0x90, 0x10] [] { start with p := ⟨false, false, false, false, false, true⟩ }) = some
        0x2002 := by
  decide

/-- BCS *: V112 of spec/95_test_vectors.md. -/
theorem test_bcs_to_itself :
    look (fun t => t.pc)
      (placed 0x2000 [0xB0, 0xFE] [] { start with p := ⟨false, false, false, false, false, true⟩ }) = some
        0x2000 := by
  decide

/-- BEQ +127: V113 of spec/95_test_vectors.md. -/
theorem test_beq_farthest_forward :
    look (fun t => t.pc)
      (placed 0x0400 [0xF0, 0x7F] [] { start with p := ⟨false, false, false, false, true, false⟩ }) = some
        0x0481 := by
  decide

/-- BNE -128: V114 of spec/95_test_vectors.md. -/
theorem test_bne_farthest_backward :
    look (fun t => t.pc)
      (placed 0x0400 [0xD0, 0x80] [] start) = some 0x0382 := by
  decide

/-- BMI +2: V115 of spec/95_test_vectors.md. -/
theorem test_bmi_taken :
    look (fun t => t.pc)
      (placed 0x1000 [0x30, 0x02] [] { start with p := ⟨true, false, false, false, false, false⟩ }) = some
        0x1004 := by
  decide

/-- BPL +2: V116 of spec/95_test_vectors.md. -/
theorem test_bpl_not_taken :
    look (fun t => t.pc)
      (placed 0x1000 [0x10, 0x02] [] { start with p := ⟨true, false, false, false, false, false⟩ }) = some
        0x1002 := by
  decide

/-- BVC *: V117 of spec/95_test_vectors.md. -/
theorem test_bvc_to_itself :
    look (fun t => t.pc)
      (placed 0x3000 [0x50, 0xFE] [] start) = some 0x3000 := by
  decide

/-- BVS +5: V118 of spec/95_test_vectors.md. -/
theorem test_bvs_not_taken :
    look (fun t => t.pc)
      (placed 0x3000 [0x70, 0x05] [] start) = some 0x3002 := by
  decide

/-- BRA +32: V119 of spec/95_test_vectors.md. -/
theorem test_bra_wraps_past_ffff :
    look (fun t => t.pc)
      (placed 0xFFF0 [0x80, 0x20] [] start) = some 0x0012 := by
  decide

/-- BRA -4: V120 of spec/95_test_vectors.md. -/
theorem test_bra_wraps_below_zero :
    look (fun t => t.pc)
      (placed 0x0001 [0x80, 0xFC] [] start) = some 0xFFFF := by
  decide

/-- JMP $1234: V121 of spec/95_test_vectors.md. -/
theorem test_jmp_abs :
    look (fun t => t.pc)
      (placed 0x1000 [0x4C, 0x34, 0x12] [] start) = some 0x1234 := by
  decide

/-- JMP ($12FF): V123 of spec/95_test_vectors.md. -/
theorem test_jmp_ind_crosses_the_page :
    look (fun t => t.pc)
      (placed 0x1000 [0x6C, 0xFF, 0x12] [(0x1200, 0x99), (0x12FF, 0x34), (0x1300, 0x56)] start) = some 0x5634 :=
        by
  decide

/-- JMP ($FFFF,X): V125 of spec/95_test_vectors.md. -/
theorem test_jmp_iax_pointer_wraps :
    look (fun t => t.pc)
      (placed 0x1000 [0x7C, 0xFF, 0xFF] [(0x0000, 0x78), (0x0001, 0x56)] { start with x := 0x01 }) = some 0x5678
        := by
  decide

/-- JSR $1234: V126 of spec/95_test_vectors.md. -/
theorem test_jsr_pushes_its_last_byte :
    look (fun t => (t.pc, t.sp, t.read 0x01FF, t.read 0x01FE))
      (placed 0x0600 [0x20, 0x34, 0x12] [] start) = some (0x1234, 0xFD, 0x06, 0x02) := by
  decide

/-- JSR $4000: V129 of spec/95_test_vectors.md. -/
theorem test_jsr_stack_wraps :
    look (fun t => (t.read 0x0100, t.read 0x01FF, t.sp))
      (placed 0x1000 [0x20, 0x00, 0x40] [] { start with sp := 0x00 }) = some (0x10, 0x02, 0xFE) := by
  decide

/-- RTS: V128 of spec/95_test_vectors.md. -/
theorem test_rts_wraps_past_ffff :
    look (fun t => (t.pc, t.sp))
      (placed 0x1000 [0x60] [(0x01FE, 0xFF), (0x01FF, 0xFF)] { start with sp := 0xFD }) = some (0x0000, 0xFF) :=
        by
  decide

/-- PHA: V130 of spec/95_test_vectors.md. -/
theorem test_pha :
    look (fun t => (t.read 0x01FF, t.sp))
      (placed 0x1000 [0x48] [] { start with a := 0x42 }) = some (0x42, 0xFE) := by
  decide

/-- PHP: V131 of spec/95_test_vectors.md. -/
theorem test_php_image :
    look (fun t => t.read 0x01FF)
      (placed 0x1000 [0x08] [] { start with p := ⟨false, false, false, true, true, true⟩ }) = some 0x37 := by
  decide

/-- PHP: V132 of spec/95_test_vectors.md. -/
theorem test_php_bits_five_and_four :
    look (fun t => t.read 0x01FF)
      (placed 0x1000 [0x08] [] start) = some 0x30 := by
  decide

/-- PHX: V134 of spec/95_test_vectors.md. -/
theorem test_phx :
    look (fun t => (t.read 0x0180, t.sp))
      (placed 0x1000 [0xDA] [] { start with x := 0x07, sp := 0x80 }) = some (0x07, 0x7F) := by
  decide

/-- PHY: V135 of spec/95_test_vectors.md. -/
theorem test_phy_stack_wraps :
    look (fun t => (t.read 0x0100, t.sp))
      (placed 0x1000 [0x5A] [] { start with y := 0xFF, sp := 0x00 }) = some (0xFF, 0xFF) := by
  decide

/-- PLA: V137 of spec/95_test_vectors.md. -/
theorem test_pla_stack_wraps :
    look (fun t => (t.a, t.sp, t.p.n))
      (placed 0x1000 [0x68] [(0x0100, 0x80)] start) = some (0x80, 0x00, true) := by
  decide

/-- PLA: V136 of spec/95_test_vectors.md. -/
theorem test_pla_zero :
    look (fun t => (t.a, t.p.z))
      (placed 0x1000 [0x68] [(0x01FF, 0x00)] { start with a := 0x05, sp := 0xFE }) = some (0x00, true) := by
  decide

/-- PLP: V138 of spec/95_test_vectors.md. -/
theorem test_plp_loads_all_flags :
    look (fun t => (t.p.n, t.p.v, t.p.d, t.p.i, t.p.z, t.p.c))
      (placed 0x1000 [0x28] [(0x01FF, 0xFF)] { start with sp := 0xFE }) = some (true, true, true, true, true,
        true) := by
  decide

/-- PLX: V141 of spec/95_test_vectors.md. -/
theorem test_plx :
    look (fun t => (t.x, t.p.n))
      (placed 0x1000 [0xFA] [(0x0180, 0x80)] { start with sp := 0x7F }) = some (0x80, true) := by
  decide

/-- PLY: V142 of spec/95_test_vectors.md. -/
theorem test_ply :
    look (fun t => (t.y, t.p.n, t.p.z))
      (placed 0x1000 [0x7A] [(0x01FE, 0x01)] { start with sp := 0xFD, p := ⟨true, false, false, false, true,
        false⟩ }) = some (0x01, false, false) := by
  decide

/-- CLC: V143 of spec/95_test_vectors.md. -/
theorem test_clc :
    look (fun t => t.p.c)
      (placed 0x1000 [0x18] [] { start with p := ⟨false, false, false, false, false, true⟩ }) = some false := by
  decide

/-- CLD: V144 of spec/95_test_vectors.md. -/
theorem test_cld :
    look (fun t => t.p.d)
      (placed 0x1000 [0xD8] [] { start with p := ⟨false, false, true, false, false, false⟩ }) = some false := by
  decide

/-- CLI: V145 of spec/95_test_vectors.md. -/
theorem test_cli :
    look (fun t => t.p.i)
      (placed 0x1000 [0x58] [] { start with p := ⟨false, false, false, true, false, false⟩ }) = some false := by
  decide

/-- CLV: V146 of spec/95_test_vectors.md. -/
theorem test_clv :
    look (fun t => t.p.v)
      (placed 0x1000 [0xB8] [] { start with p := ⟨false, true, false, false, false, false⟩ }) = some false := by
  decide

/-- SEC: V147 of spec/95_test_vectors.md. -/
theorem test_sec :
    look (fun t => t.p.c)
      (placed 0x1000 [0x38] [] start) = some true := by
  decide

/-- SED: V148 of spec/95_test_vectors.md. -/
theorem test_sed :
    look (fun t => t.p.d)
      (placed 0x1000 [0xF8] [] start) = some true := by
  decide

/-- SEI: V149 of spec/95_test_vectors.md. -/
theorem test_sei :
    look (fun t => t.p.i)
      (placed 0x1000 [0x78] [] start) = some true := by
  decide

/-- NOP: V150 of spec/95_test_vectors.md. -/
theorem test_nop :
    look (fun t => (t.a, t.pc))
      (placed 0x1000 [0xEA] [] { start with a := 0x01, x := 0x02, y := 0x03, p := ⟨true, false, false, false,
        false, true⟩ }) = some (0x01, 0x1001) := by
  decide

/-- BRK: V151 of spec/95_test_vectors.md. -/
theorem test_brk_pushes_b_and_clears_d :
    look (fun t => (t.read 0x01FD, t.p.d, t.p.i, t.pc))
      (placed 0x1000 [0x00] [(0xFFFE, 0x00), (0xFFFF, 0x80)] { start with p := ⟨false, false, true, false,
        false, true⟩ }) = some (0x39, false, true, 0x8000) := by
  decide

/-- BRK: V153 of spec/95_test_vectors.md. -/
theorem test_brk_return_address_wraps :
    look (fun t => (t.read 0x01FF, t.read 0x01FE))
      (placed 0xFFFF [0x00] [(0xFFFE, 0x00)] start) = some (0x00, 0x01) := by
  decide

/-- RTI: V154 of spec/95_test_vectors.md. -/
theorem test_rti_adds_nothing :
    look (fun t => (t.pc, t.sp, t.p.i))
      (placed 0x1000 [0x40] [(0x01FD, 0xC3), (0x01FE, 0x34), (0x01FF, 0x12)] { start with sp := 0xFC, p :=
        ⟨false, false, false, true, false, false⟩ }) = some (0x1234, 0xFF, false) := by
  decide

/-- (reserved): V156 of spec/95_test_vectors.md. -/
theorem test_reserved_one_byte :
    look (fun t => t.pc)
      (placed 0x1000 [0x03] [] start) = some 0x1001 := by
  decide

/-- (reserved): V158 of spec/95_test_vectors.md. -/
theorem test_reserved_two_bytes :
    look (fun t => (t.a, t.pc))
      (placed 0x1000 [0x44, 0x10] [(0x0010, 0xAA)] start) = some (0x00, 0x1002) := by
  decide

/-- (reserved): V161 of spec/95_test_vectors.md. -/
theorem test_reserved_three_bytes :
    look (fun t => t.pc)
      (placed 0x1000 [0xDC, 0x00, 0xD0] [] start) = some 0x1003 := by
  decide

/-! ### Interrupts and reset (spec/95_test_vectors.md, section 2.7 and 2.8) -/

/-- The vectors of section 2.7: NMI 9100, RES 8000, IRQ and BRK 9000; and NOP at 1000. -/
def vectors (s : State) : State :=
  placed 0x1000 [0xEA]
    [(0xFFFA, 0x00), (0xFFFB, 0x91), (0xFFFC, 0x00), (0xFFFD, 0x80), (0xFFFE, 0x00), (0xFFFF, 0x90)] s

/-- The state with one entry of inputs for the coming boundary. -/
def under (e : Inputs) (s : State) : State := { s with env := [e] }

/-- IRQ low. -/
def irqLow : Inputs := { Inputs.quiet with irqLow := true }

/-- An NMI edge. -/
def nmiEdge : Inputs := { Inputs.quiet with nmiEdge := true }

/-- RES pulsed. -/
def resPulse : Inputs := { Inputs.quiet with res := true }

/-- An IRQ with I = 0 goes to 9000 and pushes the status byte 20, B = 0 (R276, VI1). -/
theorem test_irq_taken : look (fun t => (t.pc, t.read 0x01FD)) (under irqLow (vectors start)) = some (0x9000,
    0x20) := by
  decide

/-- An IRQ waits while I = 1 before and after (R275). -/
theorem test_irq_masked :
    look (fun t => t.pc)
      (under irqLow (vectors { start with p := ⟨false, false, false, true, false, false⟩, iBefore := true })) =
        some 0x1001 := by
  decide

/-- An NMI goes to 9100 whatever I is, and pushes the address of the next instruction, high byte first (R277). -/
theorem test_nmi_taken :
    look (fun t => (t.pc, t.read 0x01FF, t.read 0x01FE))
      (under nmiEdge (vectors { start with p := ⟨false, false, false, true, false, false⟩, iBefore := true })) =
        some (0x9100, 0x10, 0x00) := by
  decide

/-- NMI before IRQ (R280, VI4). -/
theorem test_nmi_before_irq :
    look (fun t => t.pc) (under { nmiEdge with irqLow := true } (vectors start)) = some 0x9100 := by
  decide

/-- RES before NMI, which it discards (R300, VR2). -/
theorem test_res_discards_nmi :
    look (fun t => (t.pc, t.nmiPending)) (under { resPulse with nmiEdge := true } (vectors start)) =
      some (0x8000, false) := by
  decide

/-- An SO edge at a boundary sets V, which BVS at once sees (R274). -/
theorem test_so_sets_v :
    look (fun t => t.pc) (under { Inputs.quiet with soEdge := true } (placed 0x1000 [0x70, 0x05] [] start)) =
      some 0x1007 := by
  decide

/-- An SO edge during an instruction that does not write V sets V (R274). -/
theorem test_so_during :
    look (fun t => t.p.v) (under { Inputs.quiet with soDuring := true } (vectors start)) = some true := by
  decide

/-! ### The memory map (R69, D25, U12) -/

/-- ROM from 9000 to 90FF, a device at the one address A000, and nothing from A001 to FFFF. -/
def board : MemMap := [⟨0x9000, 0x90FF, .rom⟩, ⟨0xA000, 0xA000, .device⟩, ⟨0xA001, 0xFFFF, .nothing⟩]

/-- An area takes in its first and its last address, and an address in no area is RAM. -/
theorem test_map_bounds :
    ([0x8FFF, 0x9000, 0x90FF, 0x9100, 0xA000, 0xA001, 0xFFFF] : List Addr).map board.kindAt =
      [.ram, .rom, .rom, .ram, .device, .nothing, .nothing] := by
  decide

/-- STA and LDA absolute at one address `a`, with A = 34 and the byte 12 there. -/
def atAddress (code : Byte) (a : Addr) : State :=
  { placed 0x1000 [code, lowByte a, highByte a] [(a, 0x12)] { start with a := 0x34 } with map := board }

/-- A write to ROM, to a device or to nothing stores nothing, and one to RAM does (D25, U12). -/
theorem test_map_stores :
    ([0x9000, 0x90FF, 0xA000, 0xA001, 0x8FFF, 0x9100] : List Addr).map
        (fun a => look (fun t => Memory.read t.mem a.toNat) (atAddress 0x8D a)) =
      [some 0x12, some 0x12, some 0x12, some 0x12, some 0x34, some 0x34] := by
  decide

/-- A read of ROM gives what is stored (R69). -/
theorem test_map_rom_reads : look (fun t => t.a) (atAddress 0xAD 0x90FF) = some 0x12 := by decide

/-- A read of a device gives the free value of this step, this kind of read and this address (R71, U12). -/
theorem test_map_device_reads :
    look (fun t => t.a) (atAddress 0xAD 0xA000) = some (Config.busValue 0 .data 0xA000) := rfl

/-- The placed word is what the very next step runs, where the map has a device and nothing, too: LDX immediate 00
at FFFF sets Z. -/
theorem test_with_fetch_word_runs_anywhere :
    look (fun t => (t.p.z, t.pc)) (({ start with pc := 0xFFFF, map := board } : State).withFetchWord 8 0xA2) =
      some (true, 0x0001) := by
  decide

/-- Reset: I = 1, D = 0, and pc is what the restart vector of empty memory holds (R45, R300). -/
theorem test_reset : State.reset.p.i = true ∧ State.reset.p.d = false ∧ State.reset.pc = 0x0000 := by decide

/-! ### Witnesses: a state that meets all hypotheses of each statement that has some -/

/-- A D flag of 0, C of 1, and A = 50. -/
def binary : State := { start with a := 0x50, p := ⟨false, false, false, false, false, true⟩ }

/-- A D flag of 1, and A = 99 (valid BCD, the greatest). -/
def decimal : State := { start with a := 0x99, p := ⟨false, false, true, false, false, false⟩ }

/-- A D flag of 1, and A = 9A (not valid BCD, by its low digit). -/
def notDecimal : State := { decimal with a := 0x9A }

/-- LDA immediate at the last address of memory, IRQ high. -/
def quietState : State := placed 0xFFFF [0xA9, 0x7F] [] start

/-- IRQ low, and I = 1 both before and after. -/
def maskedState : State :=
  under irqLow (vectors { start with p := ⟨false, false, false, true, false, false⟩, iBefore := true })

/-- IRQ low after a CLI: I was 1 before it, and is 0. -/
def afterCli : State := under irqLow (vectors { start with iBefore := true })

/-- IRQ low after an SEI: I was 0 before it, and is 1. -/
def afterSei : State := under irqLow (vectors { start with p := ⟨false, false, false, true, false, false⟩ })

/-- An NMI pending. -/
def nmiWaits : State := { start with nmiPending := true }

/-- An instruction that writes V stands at `pc`, and IRQ is low with I = 0 before and after. -/
def irqOverClv : State := under irqLow (placed 0x1000 [0xB8] [] start)

/-- An NMI edge and IRQ low. -/
def nmiArrives : State := under { nmiEdge with irqLow := true } start

/-- EncodeDecodeAgree: a string of one, of two and of three bytes read, with and without bytes left over. -/
theorem witness_EncodeDecodeAgree :
    decode [0xEA] = .ok (.nop, []) ∧ decode [0xA9, 0xFF, 0x60] = .ok (.ldaImm 0xFF, [0x60]) ∧
      decode [0xBD, 0xF0, 0x12, 0xEA] = .ok (.ldaAbx 0x12F0, [0xEA]) :=
  ⟨rfl, rfl, rfl⟩

/-- StepRunsDecodedInstruction: with IRQ high, at the last address of memory; and with IRQ low but masked. -/
theorem witness_StepRunsDecodedInstruction :
    (decode quietState.bytesAtPc = .ok (.ldaImm 0x7F, [0x00]) ∧ quietState.inputs.res = false ∧
        (quietState.nmiPending || quietState.inputs.nmiEdge) = false ∧ quietState.inputs.soEdge = false ∧
        quietState.inputs.soDuring = false ∧
        quietState.inputs.irqLow = false) ∧
    (decode maskedState.bytesAtPc = .ok (.nop, [0x00, 0x00]) ∧ maskedState.inputs.res = false ∧
        (maskedState.nmiPending || maskedState.inputs.nmiEdge) = false ∧ maskedState.inputs.soEdge = false ∧
        maskedState.inputs.soDuring = false ∧
        (maskedState.iBefore = true ∧ maskedState.p.i = true)) :=
  ⟨⟨rfl, rfl, rfl, rfl, rfl, rfl⟩, ⟨rfl, rfl, rfl, rfl, rfl, rfl, rfl⟩⟩

/-- ResEventRunsReset: RES pulsed, alone and with every other input. -/
theorem witness_ResEventRunsReset :
    (under resPulse start).inputs.res = true ∧ (under ⟨true, true, true, true, true⟩ start).inputs.res = true :=
  ⟨rfl, rfl⟩

/-- NmiTakenBeforeIrq: an NMI pending, and an NMI edge with IRQ low. -/
theorem witness_NmiTakenBeforeIrq :
    (nmiWaits.inputs.res = false ∧ (nmiWaits.nmiPending || nmiWaits.inputs.nmiEdge) = true ∧
    nmiWaits.inputs.soEdge = false ∧
        nmiWaits.inputs.soDuring = false) ∧
    (nmiArrives.inputs.res = false ∧ (nmiArrives.nmiPending || nmiArrives.inputs.nmiEdge) = true ∧
    nmiArrives.inputs.soEdge = false ∧
        nmiArrives.inputs.soDuring = false) :=
  ⟨⟨rfl, rfl, rfl, rfl⟩, ⟨rfl, rfl, rfl, rfl⟩⟩

/-- UnmaskedIrqTaken: IRQ low, I = 0 before and after. -/
theorem witness_UnmaskedIrqTaken :
    let s := under irqLow (vectors start)
    s.inputs.res = false ∧ (s.nmiPending || s.inputs.nmiEdge) = false ∧ s.inputs.soEdge = false ∧
      s.inputs.soDuring = false ∧ s.inputs.irqLow = true ∧ s.iBefore = false ∧ s.p.i = false :=
  ⟨rfl, rfl, rfl, rfl, rfl, rfl, rfl⟩

/-- IrqAfterIChangeIsEitherWay: IRQ low after a CLI (I 1 before, 0 after), and after an SEI. -/
theorem witness_IrqAfterIChangeIsEitherWay :
    (decode afterCli.bytesAtPc = .ok (.nop, [0x00, 0x00]) ∧ afterCli.inputs.res = false ∧
        (afterCli.nmiPending || afterCli.inputs.nmiEdge) = false ∧ afterCli.inputs.soEdge = false ∧
        afterCli.inputs.soDuring = false ∧
        afterCli.inputs.irqLow = true ∧ afterCli.iBefore ≠ afterCli.p.i) ∧
    (decode afterSei.bytesAtPc = .ok (.nop, [0x00, 0x00]) ∧ afterSei.inputs.res = false ∧
        (afterSei.nmiPending || afterSei.inputs.nmiEdge) = false ∧ afterSei.inputs.soEdge = false ∧
        afterSei.inputs.soDuring = false ∧
        afterSei.inputs.irqLow = true ∧ afterSei.iBefore ≠ afterSei.p.i) :=
  ⟨⟨rfl, rfl, rfl, rfl, rfl, rfl, by decide⟩, ⟨rfl, rfl, rfl, rfl, rfl, rfl, by decide⟩⟩

/-- SoEdgeDuringStepTouchesOnlyV: no RES; an instruction that does not write V; an NMI pending; and an IRQ
taken over
an instruction that writes V. -/
theorem witness_SoEdgeDuringStepTouchesOnlyV :
    irqLow.res = false ∧ writesV (vectors start).fetch = false ∧
      (({ start with nmiPending := true } : State).nmiPending || irqLow.nmiEdge) = true ∧
      irqOverClv.irqTaken irqLow = true ∧ writesV irqOverClv.fetch = true :=
  ⟨rfl, rfl, rfl, rfl, rfl⟩

/-- StepKeepsCanonicalMemoryAndStoresInRamAlone: a state with bytes listed and a map with ROM, a device and nothing,
and its next state. -/
theorem witness_StepKeepsCanonicalMemoryAndStoresInRamAlone :
    let s := atAddress 0x8D 0x9000
    s.Inv ∧ (∃ t, step s = .next t) ∧ s.kindAt 0x9000 ≠ .ram ∧ s.kindAt 0xA000 ≠ .ram ∧ s.kindAt 0xFFFF ≠ .ram :=
  ⟨by unfold State.Inv; decide, ⟨_, rfl⟩, by decide, by decide, by decide⟩

/-- CanonicalMemoriesThatReadAlikeAreEqual: two memories with bytes at the first and the last address. -/
theorem witness_CanonicalMemoriesThatReadAlikeAreEqual :
    let m : Memory := [(0, 0x01), (65535, 0xFF)]
    Memory.wf m = true ∧ Memory.wf m = true ∧ ∀ a : Addr, Memory.read m a.toNat = Memory.read m a.toNat :=
  ⟨by decide, by decide, fun _ => rfl⟩

/-- RegistersChangeOnlyByTheirWriters: an instruction that writes none of the five, STA zero page. -/
theorem witness_RegistersChangeOnlyByTheirWriters :
    (∃ t, exec (.staZpg 0x10) start = .next t) ∧ opcodeOf (.staZpg 0x10) ∉ aWriters ∧
      opcodeOf (.staZpg 0x10) ∉ xWriters ∧ opcodeOf (.staZpg 0x10) ∉ yWriters ∧
      opcodeOf (.staZpg 0x10) ∉ sWriters ∧ opcodeOf (.staZpg 0x10) ∉ pcWriters :=
  ⟨⟨_, rfl⟩, by decide, by decide, by decide, by decide, by decide⟩

/-- FlagsChangeOnlyByTheirWriters: an instruction that writes no flag, TXS; and for each flag one that writes
another flag: STA none, SEC not N, V, D, I or Z, SED not C. -/
theorem witness_FlagsChangeOnlyByTheirWriters :
    (∃ t, exec .txs start = .next t) ∧ opcodeOf .txs ∉ nWriters ∧ opcodeOf .txs ∉ vWriters ∧
      opcodeOf .txs ∉ dWriters ∧ opcodeOf .txs ∉ iWriters ∧ opcodeOf .txs ∉ zWriters ∧
      opcodeOf .txs ∉ cWriters ∧ (∃ t, exec .sec start = .next t) ∧ opcodeOf .sec ∉ nWriters ∧
      opcodeOf .sec ∉ vWriters ∧ opcodeOf .sec ∉ dWriters ∧ opcodeOf .sec ∉ iWriters ∧
      opcodeOf .sec ∉ zWriters ∧ (∃ t, exec .sed start = .next t) ∧ opcodeOf .sed ∉ cWriters :=
  ⟨⟨_, rfl⟩, by decide, by decide, by decide, by decide, by decide, by decide, ⟨_, rfl⟩, by decide, by decide,
    by decide, by decide, by decide, ⟨_, rfl⟩, by decide⟩

/-- MemoryChangesOnlyByStoringInstructions: a load, a pull and a reserved op code. -/
theorem witness_MemoryChangesOnlyByStoringInstructions :
    (∃ t, exec (.ldaIzx 0xFF) start = .next t) ∧ opcodeOf (.ldaIzx 0xFF) ∉ memoryWriters ∧
      (∃ t, exec .pla start = .next t) ∧ opcodeOf .pla ∉ memoryWriters ∧
      (∃ t, exec (.rsv5c 0xFFFF) start = .next t) ∧ opcodeOf (.rsv5c 0xFFFF) ∉ memoryWriters :=
  ⟨⟨_, rfl⟩, by decide, ⟨_, rfl⟩, by decide, ⟨_, rfl⟩, by decide⟩

/-- InstructionsDoNotTouchTheInputs: D = 0 with ADC, and D = 1 with an instruction that is not ADC or SBC. -/
theorem witness_InstructionsDoNotTouchTheInputs :
    (∃ t, exec (.adcImm 0x01) binary = .next t) ∧ binary.p.d = false ∧
      (∃ t, exec (.cmpImm 0x01) decimal = .next t) ∧ decimal.p.d = true ∧ opcodeOf (.cmpImm 0x01) ∉ adcSbc :=
  ⟨⟨_, rfl⟩, rfl, ⟨_, rfl⟩, rfl, by decide⟩

/-- The stack page is RAM in a state whose map has no area there. -/
theorem board_stack_is_ram : StackIsRam { start with map := board } := fun b => by revert b; decide

/-- BrkThenRtiResumesAfterTheSkippedByte: the handler changes A; S starts at 01, so that the frame wraps. -/
theorem witness_BrkThenRtiResumesAfterTheSkippedByte :
    ∃ s t u r : State, StackIsRam s ∧ exec .brk s = .next t ∧ r.sp = t.sp ∧ r.mem = t.mem ∧
      r.map = t.map ∧ exec .rti r = .next u ∧ r.a ≠ t.a :=
  ⟨{ decimal with sp := 0x01 }, _, _, ({ decimal with sp := 0x01 } : State).breakSequence.setA 0x12,
    fun _ => rfl, rfl, rfl, rfl, rfl, rfl, by decide⟩

/-- InterruptThenRtiResumes: an NMI edge with D = 1, and an IRQ with an SO edge at its boundary. -/
theorem witness_InterruptThenRtiResumes :
    (let s := under nmiEdge (vectors decimal);
      StackIsRam s ∧ s.inputs.res = false ∧ (s.nmiPending || s.inputs.nmiEdge) = true ∧
        ∃ t u r : State, step s = .next t ∧ r.sp = t.sp ∧ r.mem = t.mem ∧ r.map = t.map ∧
          exec .rti r = .next u) ∧
    (let s := under { irqLow with soEdge := true } (vectors decimal);
      StackIsRam s ∧ s.inputs.res = false ∧ s.irqTaken s.inputs = true ∧
        ∃ t u r : State, step s = .next t ∧ r.sp = t.sp ∧ r.mem = t.mem ∧ r.map = t.map ∧
          exec .rti r = .next u) :=
  ⟨⟨fun _ => rfl, rfl, rfl, _, _, _, rfl, rfl, rfl, rfl, rfl⟩,
    ⟨fun _ => rfl, rfl, rfl, _, _, _, rfl, rfl, rfl, rfl, rfl⟩⟩

/-- JsrThenRtsReturns: from the first page, S = 00, so that the stack wraps. -/
theorem witness_JsrThenRtsReturns :
    ∃ s t u r : State, StackIsRam s ∧ exec (.jsr 0x1234) s = .next t ∧ r.sp = t.sp ∧ r.mem = t.mem ∧
      r.map = t.map ∧ exec .rts r = .next u ∧ r.a ≠ t.a :=
  ⟨{ binary with sp := 0x00, pc := 0x0000 }, _, _,
    (({ binary with sp := 0x00, pc := 0x0000 } : State).jumpToSubroutine 0x1234).setA 0x12,
    fun _ => rfl, rfl, rfl, rfl, rfl, rfl, by decide⟩

/-- PullsUndoPushes: a state after each of the three pushes, with a map that leaves the stack page to RAM. -/
theorem witness_PullsUndoPushes :
    let s : State := { start with map := board }
    StackIsRam s ∧
      (∃ t, (Instr.pha, s.a) ∈ [(Instr.pha, s.a), (.phx, s.x), (.phy, s.y)] ∧ exec .pha s = .next t) ∧
      (∃ t, (Instr.phx, s.x) ∈ [(Instr.pha, s.a), (.phx, s.x), (.phy, s.y)] ∧ exec .phx s = .next t) ∧
      ∃ t r : State, (Instr.phy, s.y) ∈ [(Instr.pha, s.a), (.phx, s.x), (.phy, s.y)] ∧ exec .phy s = .next t ∧
        r.sp = t.sp ∧ r.mem = t.mem ∧ r.map = t.map ∧ r.a ≠ t.a :=
  ⟨board_stack_is_ram, ⟨_, by simp, rfl⟩, ⟨_, by simp, rfl⟩,
    ⟨_, (({ start with map := board } : State).push 0x00).setA 0x12, by simp, rfl, rfl, rfl, rfl, by decide⟩⟩

/-- PlpThenPhpForcesBitsFiveAndFour: a PLP, then a PHP. -/
theorem witness_PlpThenPhpForcesBitsFiveAndFour :
    ∃ t u, exec .plp { start with sp := 0xFE } = .next t ∧ exec .php t = .next u :=
  ⟨_, _, rfl, rfl⟩

/-- AdcBinary: D = 0, with a form of ADC. -/
theorem witness_AdcBinary :
    binary.p.d = false ∧ (0x69#8, Instr.adcImm 0x50, 0x50#8) ∈ adcForms 0x50 0x1234 binary :=
  ⟨rfl, by simp [adcForms]⟩

/-- AdcCarryAndOverflowAreExact: the same. -/
theorem witness_AdcCarryAndOverflowAreExact :
    binary.p.d = false ∧
    (0x72#8, Instr.adcIzp 0x50, binary.read (binary.eaIzp 0x50)) ∈ adcForms 0x50 0x1234 binary :=
  ⟨rfl, by simp [adcForms]⟩

/-- SbcIsAdcOfTheComplement: D = 0. -/
theorem witness_SbcIsAdcOfTheComplement : binary.p.d = false := rfl

/-- SbcBinary: D = 0, with a form of SBC. -/
theorem witness_SbcBinary :
    binary.p.d = false ∧ (0xE9#8, Instr.sbcImm 0x50, 0x50#8) ∈ sbcForms 0x50 0x1234 binary :=
  ⟨rfl, by simp [sbcForms]⟩

/-- SbcBorrowAndOverflowAreExact: the same. -/
theorem witness_SbcBorrowAndOverflowAreExact :
    binary.p.d = false ∧
    (0xF2#8, Instr.sbcIzp 0x50, binary.read (binary.eaIzp 0x50)) ∈ sbcForms 0x50 0x1234 binary :=
  ⟨rfl, by simp [sbcForms]⟩

/-- DecimalAdcAddsDecimalNumbers: D = 1 and 99 + 99. -/
theorem witness_DecimalAdcAddsDecimalNumbers :
    decimal.p.d = true ∧ (0x69#8, Instr.adcImm 0x99, 0x99#8) ∈ adcForms 0x99 0x1234 decimal ∧
      validBcd decimal.a = true ∧ validBcd 0x99 = true :=
  ⟨rfl, by simp [adcForms], by decide, by decide⟩

/-- DecimalSbcSubtractsDecimalNumbers: D = 1 and 99 - 00. -/
theorem witness_DecimalSbcSubtractsDecimalNumbers :
    decimal.p.d = true ∧ (0xE9#8, Instr.sbcImm 0x00, 0x00#8) ∈ sbcForms 0x00 0x1234 decimal ∧
      validBcd decimal.a = true ∧ validBcd 0x00 = true :=
  ⟨rfl, by simp [sbcForms], by decide, by decide⟩

/-- DecimalAgreesWithNibbleAlgorithms: D = 1 and two valid BCD operands. -/
theorem witness_DecimalAgreesWithNibbleAlgorithms :
    decimal.p.d = true ∧ validBcd decimal.a = true ∧ validBcd 0x99 = true :=
  ⟨rfl, by decide, by decide⟩

/-- DecimalOnInvalidBcdTouchesOnlyAAndFlags: A is not valid BCD; and the operand A0 is not, by its high digit. -/
theorem witness_DecimalOnInvalidBcdTouchesOnlyAAndFlags :
    (notDecimal.p.d = true ∧
        (0x69#8, Instr.adcImm 0x00, 0x00#8) ∈ adcForms 0x00 0x1234 notDecimal ++ sbcForms 0x00 0x1234 notDecimal ∧
        validBcd notDecimal.a = false) ∧
      decimal.p.d = true ∧
        (0xE9#8, Instr.sbcImm 0xA0, 0xA0#8) ∈ adcForms 0xA0 0x1234 decimal ++ sbcForms 0xA0 0x1234 decimal ∧
        validBcd 0xA0 = false :=
  ⟨⟨rfl, by simp [adcForms], by decide⟩, rfl, by simp [adcForms, sbcForms], by decide⟩

/-- CompareIsSubtractionWithoutBorrow: D = 0 and C = 1, and the next states of both instructions. -/
theorem witness_CompareIsSubtractionWithoutBorrow :
    binary.p.d = false ∧ binary.p.c = true ∧ (∃ t, exec (.cmpImm 0x51) binary = .next t) ∧
      ∃ u, exec (.sbcImm 0x51) binary = .next u :=
  ⟨rfl, rfl, ⟨_, rfl⟩, ⟨_, rfl⟩⟩

/-- RotatesUndoEachOther: both orders complete. -/
theorem witness_RotatesUndoEachOther :
    (∃ t u, exec .rolAcc binary = .next t ∧ exec .rorAcc t = .next u) ∧
      ∃ t u, exec .rorAcc binary = .next t ∧ exec .rolAcc t = .next u :=
  ⟨⟨_, _, rfl, rfl⟩, ⟨_, _, rfl, rfl⟩⟩

end Sys2Proof.Tests
end

section
/-! PROOFS. What exec and step do to memory, said once (R11, R69): whatever runs, memory changes by stores through the
map alone. That a step always has a successor comes with it. -/

namespace Sys2Proof.Machine

/-- `map.StoresTo m n`: some stores through the map, one after the other, make `n` of `m`. -/
inductive MemMap.StoresTo (map : MemMap) (m : Memory) : Memory → Prop where
  | refl : MemMap.StoresTo map m m
  | store {n : Memory} (h : MemMap.StoresTo map m n) (a : Addr) (v : Byte) :
      MemMap.StoresTo map m (map.store n a v)

theorem MemMap.StoresTo.trans {map : MemMap} {m n k : Memory} (hmn : map.StoresTo m n)
    (hnk : map.StoresTo n k) : map.StoresTo m k := by
  induction hnk with
  | refl => exact hmn
  | store _ a v ih => exact ih.store a v

theorem MemMap.StoresTo.wf {map : MemMap} {m n : Memory} (h : map.StoresTo m n)
    (hm : Memory.wf m = true) : Memory.wf n = true := by
  induction h with
  | refl => exact hm
  | store _ a v ih => exact map.wf_store a v ih

theorem MemMap.StoresTo.read_of_ne_ram {map : MemMap} {m n : Memory} (h : map.StoresTo m n) {x : Addr}
    (hx : map.kindAt x ≠ .ram) : Memory.read n x.toNat = Memory.read m x.toNat := by
  induction h with
  | refl => rfl
  | @store k _ a v ih =>
    have hxa : ¬(x = a ∧ map.kindAt a = .ram) := fun ⟨hax, hram⟩ => hx (hax ▸ hram)
    rw [MemMap.read_store, if_neg hxa, ih]

/-- From `s` to `t` the map stays and memory changes by stores through it alone. -/
structure State.OnlyStores (s t : State) : Prop where
  map_eq : t.map = s.map
  storesTo : s.map.StoresTo s.mem t.mem

theorem State.OnlyStores.of_mem_eq {s t : State} (hk : t.map = s.map) (hm : t.mem = s.mem) :
    s.OnlyStores t :=
  ⟨hk, hm ▸ .refl⟩

theorem State.OnlyStores.of_store {s t : State} (a : Addr) (v : Byte) (hk : t.map = s.map)
    (hm : t.mem = s.map.store s.mem a v) : s.OnlyStores t :=
  ⟨hk, hm ▸ .store .refl a v⟩

theorem State.OnlyStores.trans {s t u : State} (hst : s.OnlyStores t) (htu : t.OnlyStores u) :
    s.OnlyStores u :=
  ⟨htu.map_eq.trans hst.map_eq, hst.storesTo.trans (hst.map_eq ▸ htu.storesTo)⟩

theorem State.onlyStores_push (s : State) (v : Byte) : s.OnlyStores (s.push v) :=
  .of_store (stackAddr s.sp) v rfl rfl

theorem State.onlyStores_pushAddr (s : State) (v : Addr) : s.OnlyStores (s.pushAddr v) :=
  (s.onlyStores_push _).trans (State.onlyStores_push _ _)

theorem State.onlyStores_enter (s : State) (b : Bool) (vector : Addr) : s.OnlyStores (s.enter b vector) :=
  ((s.onlyStores_pushAddr s.pc).trans (State.onlyStores_push _ _)).trans (.of_mem_eq rfl rfl)

theorem State.onlyStores_breakSequence (s : State) : s.OnlyStores s.breakSequence :=
  have hpc : s.OnlyStores (s.setPc (s.pc + 1)) := .of_mem_eq rfl rfl
  hpc.trans (State.onlyStores_enter _ true 0xFFFE#16)

theorem State.onlyStores_irqSequence (s : State) : s.OnlyStores s.irqSequence :=
  (s.onlyStores_enter false 0xFFFE#16).trans (.of_mem_eq rfl rfl)

theorem State.onlyStores_nmiSequence (s : State) : s.OnlyStores s.nmiSequence :=
  have hrequest : s.OnlyStores { s with nmiPending := false } := .of_mem_eq rfl rfl
  hrequest.trans ((State.onlyStores_enter _ false 0xFFFA#16).trans (.of_mem_eq rfl rfl))

theorem State.onlyStores_adc (s : State) (m : Byte) : s.OnlyStores (s.adc m) := by
  obtain ⟨_, _, _, _, _, _, h, -⟩ := s.adc_frame m
  exact h ▸ .of_mem_eq rfl rfl

theorem State.onlyStores_sbc (s : State) (m : Byte) : s.OnlyStores (s.sbc m) := by
  obtain ⟨_, _, _, _, _, _, h, -⟩ := s.sbc_frame m
  exact h ▸ .of_mem_eq rfl rfl

theorem State.onlyStores_branchIf (s : State) (cond : Bool) (off : Byte) :
    s.OnlyStores (s.branchIf cond off) := by
  rw [State.branchIf_eq]
  exact .of_mem_eq rfl rfl

theorem State.onlyStores_overflowIf (s : State) (e : Inputs) (w : Bool) :
    s.OnlyStores (s.overflowIf e w) := by
  obtain ⟨_, _, h⟩ := s.overflowIf_frame e w
  exact h ▸ .of_mem_eq rfl rfl

theorem State.onlyStores_afterChoice (s : State) (e : Inputs) : s.OnlyStores (s.afterChoice e) := by
  rw [State.afterChoice_eq]
  exact .of_mem_eq rfl rfl

/-- Every meaning completes (R113, R270) and changes memory by stores alone. The cases: ADC and SBC; branches; one
byte stored at an effective address or pushed; JSR; BRK; and all others, which leave memory alone. -/
theorem exec_onlyStores (i : Instr) (s : State) : ∃ t, exec i s = .next t ∧ s.OnlyStores t := by
  cases i with
  | adcIzx | adcZpg | adcImm | adcAbs | adcIzy | adcIzp | adcZpx | adcAby | adcAbx =>
    exact ⟨_, rfl, s.onlyStores_adc _⟩
  | sbcIzx | sbcZpg | sbcImm | sbcAbs | sbcIzy | sbcIzp | sbcZpx | sbcAby | sbcAbx =>
    exact ⟨_, rfl, s.onlyStores_sbc _⟩
  | bpl | bmi | bvc | bvs | bra | bcc | bcs | bne | beq => exact ⟨_, rfl, s.onlyStores_branchIf _ _⟩
  | staIzx | staZpg | staAbs | staIzy | staIzp | staZpx | staAby | staAbx | stxZpg | stxAbs | stxZpy
  | styZpg | styAbs | styZpx | stzZpg | stzZpx | stzAbs | stzAbx
  | incZpg | incAbs | incZpx | incAbx | decZpg | decAbs | decZpx | decAbx | tsbZpg | tsbAbs | trbZpg | trbAbs
  | aslZpg | aslAbs | aslZpx | aslAbx | lsrZpg | lsrAbs | lsrZpx | lsrAbx
  | rolZpg | rolAbs | rolZpx | rolAbx | rorZpg | rorAbs | rorZpx | rorAbx =>
    exact ⟨_, rfl, .of_store _ _ rfl rfl⟩
  | pha | phx | phy | php => exact ⟨_, rfl, s.onlyStores_push _⟩
  | jsr => exact ⟨_, rfl, (s.onlyStores_pushAddr _).trans (.of_mem_eq rfl rfl)⟩
  | brk => exact ⟨_, rfl, s.onlyStores_breakSequence⟩
  | _ => exact ⟨_, rfl, .of_mem_eq rfl rfl⟩

theorem runInstr_onlyStores (e : Inputs) (s : State) : ∃ t, runInstr e s = .next t ∧ s.OnlyStores t := by
  obtain ⟨t, hexec, hstores⟩ := exec_onlyStores s.fetch s.advance
  have hadvance : s.OnlyStores s.advance := .of_mem_eq rfl rfl
  exact ⟨_, runInstr_next hexec, (hadvance.trans hstores).trans
    ((t.onlyStores_overflowIf e _).trans (.of_mem_eq rfl rfl))⟩

/-- Every step completes (R270) and changes memory by stores alone, whichever of the four kinds of step it is
(R280). -/
theorem step_onlyStores (s : State) : ∃ t, step s = .next t ∧ s.OnlyStores t := by
  have hboundary : s.OnlyStores s.atBoundary := .of_mem_eq rfl rfl
  have hchoice := hboundary.trans (s.atBoundary.onlyStores_afterChoice s.inputs)
  cases hres : s.inputs.res with
  | true => exact ⟨_, step_res hres, hboundary.trans (.of_mem_eq rfl rfl)⟩
  | false =>
  cases hnmi : s.nmiPending || s.inputs.nmiEdge with
  | true =>
    exact ⟨_, step_nmi hres hnmi, (hboundary.trans (State.onlyStores_nmiSequence _)).trans
      (State.onlyStores_overflowIf _ _ _)⟩
  | false =>
  cases hirq : s.atBoundary.irqTaken s.inputs with
  | true =>
    exact ⟨_, step_irq hres hnmi hirq, (hchoice.trans (State.onlyStores_irqSequence _)).trans
      (State.onlyStores_overflowIf _ _ _)⟩
  | false =>
    obtain ⟨t, hrun, hstores⟩ := runInstr_onlyStores s.inputs (s.atBoundary.afterChoice s.inputs)
    exact ⟨t, (step_instr hres hnmi hirq).trans hrun, hchoice.trans hstores⟩

/-- Settles O15: each of the three facts is one of stores through the map, and a step makes no other change to
memory. -/
theorem stepKeepsCanonicalMemoryAndStoresInRamAlone :
    Obligations.StepKeepsCanonicalMemoryAndStoresInRamAlone := by
  intro s t hst
  obtain ⟨t', hst', hmap, hstores⟩ := step_onlyStores s
  obtain rfl : t' = t := Host.Outcome.next.inj (hst'.symm.trans hst)
  exact ⟨hstores.wf, hmap, fun _ hx => hstores.read_of_ne_ram hx⟩

/-- Settles O13: no kind of step faults or is refused. -/
theorem everyStepCompletes : Obligations.EveryStepCompletes := by
  intro s
  obtain ⟨t, hstep, -⟩ := step_onlyStores s
  exact ⟨t, hstep⟩

end Sys2Proof.Machine
end

section
/-! PROOFS. A step that runs an instruction (R15): the bytes that `decode` accepts are those of `encode`, so the
instruction at `pc` is as long as its encoding; and what the step is at a boundary with no event. -/

namespace Sys2Proof

/-- The instructions of the cell encode to the op code and their operand bytes (R100, R102). -/
def OpCell.Encodes (op : Byte) : OpCell → Prop
  | .one i => encode i = [op]
  | .two f => ∀ b, encode (f b) = [op, b]
  | .three f => ∀ w, encode (f w) = op :: addrBytes w

theorem OpCell.encodes_one {op : Byte} {i : Instr} : (OpCell.one i).Encodes op ↔ encode i = [op] := .rfl

theorem OpCell.encodes_two {op : Byte} {f : Byte → Instr} :
    (OpCell.two f).Encodes op ↔ ∀ b, encode (f b) = [op, b] := .rfl

theorem OpCell.encodes_three {op : Byte} {f : Addr → Instr} :
    (OpCell.three f).Encodes op ↔ ∀ w, encode (f w) = op :: addrBytes w := .rfl

/-- The cells encode to the op codes from `k` on, in their order. -/
def CellsEncode : Nat → List OpCell → Prop
  | _, [] => True
  | k, c :: cs => c.Encodes (BitVec.ofNat 8 k) ∧ CellsEncode (k + 1) cs

theorem cellsEncode_append (k : Nat) (cs ds : List OpCell) :
    CellsEncode k (cs ++ ds) ↔ CellsEncode k cs ∧ CellsEncode (k + cs.length) ds := by
  induction cs generalizing k with
  | nil => simp [CellsEncode]
  | cons c cs ih => simp [CellsEncode, ih, and_assoc, Nat.add_assoc, Nat.add_comm 1]

theorem CellsEncode.get {k : Nat} {cs : List OpCell} (h : CellsEncode k cs) (n : Fin cs.length) :
    (cs.get n).Encodes (BitVec.ofNat 8 (k + n)) := by
  induction cs generalizing k with
  | nil => exact n.elim0
  | cons c cs ih =>
    obtain ⟨hc, hcs⟩ := h
    cases n using Fin.cases with
    | zero => exact hc
    | succ n =>
      have := ih hcs n
      rwa [Nat.add_assoc, Nat.add_comm 1] at this

/-- Row by row, every cell of the map encodes to the op code at its place. -/
theorem opcodeMap_encodes : CellsEncode 0 opcodeMap := by
  simp only [opcodeMap, cellsEncode_append, List.length_append]
  simp only [opRow0, opRow1, opRow2, opRow3, opRow4, opRow5, opRow6, opRow7, opRow8, opRow9, opRowA, opRowB,
    opRowC, opRowD, opRowE, opRowF, List.length_cons, List.length_nil, CellsEncode, OpCell.Encodes, Nat.reduceAdd,
    and_true]
  and_intros <;> intros <;> rfl

theorem opcodeCell_encodes (op : Byte) : (opcodeCell op).Encodes op := by
  have h := opcodeMap_encodes.get ⟨op.toNat, by rw [opcodeMap_length]; exact op.isLt⟩
  rwa [Nat.zero_add, BitVec.ofNat_toNat, BitVec.setWidth_eq] at h

/-- What `decode` reads of a string are the bytes of `encode` of what it answers. -/
theorem eq_encode_append_of_decode {bs rest : List Byte} {i : Instr} (h : decode bs = .ok (i, rest)) :
    bs = encode i ++ rest := by
  cases bs with
  | nil => cases h
  | cons op bs =>
    have hcell := opcodeCell_encodes op
    rw [decode_cons] at h
    split at h
    next i' hop =>
      cases h
      rw [hop, OpCell.encodes_one] at hcell
      simp [hcell]
    next f b _ hop =>
      cases h
      rw [hop, OpCell.encodes_two] at hcell
      simp [hcell]
    next f b1 b2 _ hop =>
      cases h
      rw [hop, OpCell.encodes_three] at hcell
      simp [hcell, addrBytes]
    all_goals cases h

namespace Machine

theorem State.length_encode_fetch (s : State) : (encode s.fetch).length = s.cellAtPc.length := by
  have hbytes := congrArg List.length (eq_encode_append_of_decode (decode_bytesAtPc s))
  have hthree : s.cellAtPc.length ≤ 3 := by
    cases s.cellAtPc <;> simp [OpCell.length]
  simp only [State.bytesAtPc, List.length_append, List.length_drop, List.length_cons, List.length_nil] at hbytes
  omega

theorem State.fetch_eq_of_decode {s : State} {i : Instr} {rest : List Byte}
    (h : decode s.bytesAtPc = .ok (i, rest)) : s.fetch = i := by
  rw [decode_bytesAtPc] at h
  cases h
  rfl

/-- Fetching moves `pc` past the bytes of the instruction (R15, R25). -/
theorem State.advance_eq (s : State) :
    s.advance = { s with pc := s.pc + BitVec.ofNat 16 (encode s.fetch).length } := by
  rw [State.length_encode_fetch]
  rfl

/-- Without an SO edge during it, a step that runs an instruction is `exec` of it, with the I flag before it recorded
and the step counted. -/
theorem runInstr_quiet {e : Inputs} (s : State) (h : e.soDuring = false) :
    runInstr e s =
      match exec s.fetch s.advance with
      | .next t => .next { t with iBefore := s.p.i, steps := t.steps + 1 }
      | .fault r => .fault r
      | .refused r => .refused r := by
  unfold runInstr
  cases exec s.fetch s.advance with
  | next t =>
    simp only [State.overflowIf_quiet t _ h]
    rfl
  | fault r => rfl
  | refused r => rfl

/-- IRQ may not be taken where the line is high, or I was 1 both before and after (R275). -/
theorem State.irqMay_eq_false {s : State} {e : Inputs}
    (h : e.irqLow = false ∨ (s.iBefore = true ∧ s.p.i = true)) : s.irqMay e = false := by
  obtain hhigh | ⟨hbefore, hafter⟩ := h
  · simp [State.irqMay, hhigh]
  · simp [State.irqMay, hbefore, hafter]

theorem State.irqTaken_of_irqMay_eq_false {s : State} {e : Inputs} (h : s.irqMay e = false) :
    s.irqTaken e = false := by
  have hmust : s.irqMust e = false := by
    revert h
    unfold State.irqMay State.irqMust
    cases e.irqLow <;> cases s.iBefore <;> simp
  simp [State.irqTaken, hmust, h]

theorem State.afterChoice_of_irqMay_eq_false {s : State} {e : Inputs} (h : s.irqMay e = false) :
    s.afterChoice e = s := by
  simp [State.afterChoice, h]

/-- A boundary with no SO edge and no NMI uses up its inputs and changes nothing else. -/
theorem State.atBoundary_quiet {s : State} (hnmi : (s.nmiPending || s.inputs.nmiEdge) = false)
    (hso : s.inputs.soEdge = false) : s.atBoundary = { s with env := s.env.tail } := by
  obtain ⟨hpending, -⟩ := Bool.or_eq_false_iff.mp hnmi
  rw [State.atBoundary_eq, hnmi, hso, Bool.or_false, ← hpending]

/-- Settles O5. -/
theorem stepRunsDecodedInstruction : Obligations.StepRunsDecodedInstruction := by
  intro s i rest hdecode hres hnmi hso hduring hirq
  obtain rfl := State.fetch_eq_of_decode hdecode
  have hboundary := State.atBoundary_quiet hnmi hso
  have hmay : s.atBoundary.irqMay s.inputs = false := by
    rw [hboundary]
    exact State.irqMay_eq_false hirq
  rw [step_instr hres hnmi (State.irqTaken_of_irqMay_eq_false hmay),
    State.afterChoice_of_irqMay_eq_false hmay, hboundary, runInstr_quiet _ hduring, State.advance_eq]
  rfl

end Machine

end Sys2Proof
end

section
/-! PROOFS. The stack: what each push and pull does (R12, R240 to R247), and that a pull after a push gives the pushed
byte back where the stack page is RAM. -/

namespace Sys2Proof.Machine

open Sys2Proof.Statements

/-- The image of P is its eight bits weighed by powers of two (R31). -/
theorem Flags.image_eq_statusByte (p : Flags) (b : Bool) : p.image b = statusByte b p := by
  have hbits : ∀ n v d i z c b : Bool,
      Flags.image ⟨n, v, d, i, z, c⟩ b = statusByte b ⟨n, v, d, i, z, c⟩ := by decide
  exact hbits p.n p.v p.d p.i p.z p.c b

theorem exec_pha (s : State) : exec .pha s = .next (s.push s.a) := rfl

theorem exec_phx (s : State) : exec .phx s = .next (s.push s.x) := rfl

theorem exec_phy (s : State) : exec .phy s = .next (s.push s.y) := rfl

theorem exec_php (s : State) : exec .php s = .next (s.push (statusByte true s.p)) := by
  rw [← Flags.image_eq_statusByte]
  rfl

theorem exec_pla (s : State) : exec .pla s = .next (s.pull.2.lda s.pull.1) := rfl

theorem exec_plx (s : State) : exec .plx s = .next (s.pull.2.ldx s.pull.1) := rfl

theorem exec_ply (s : State) : exec .ply s = .next (s.pull.2.ldy s.pull.1) := rfl

theorem exec_plp (s : State) : exec .plp s = .next (s.pull.2.setP (flagsFrom s.pull.1)) := rfl

/-- The data byte at any address after a push: the pushed byte at `0x0100 + S` if that is RAM, else as before. -/
theorem State.read_push (s : State) (v : Byte) (x : Addr) :
    (s.push v).read x = if x = stackAddr s.sp then afterStore s x v else s.read x := by
  have hread : (s.push v).read x = (s.write (stackAddr s.sp) v).read x := State.read_setS _ _ _
  rw [hread, State.read_write]
  by_cases hx : x = stackAddr s.sp
  · simp [hx, afterStore]
  · simp [hx]

/-- A byte pushed where the stack page is RAM is the one that the next pull reads, from any state that has the S,
memory and map of the push. -/
theorem State.readAs_stack_of_push {s r : State} {v : Byte} (hram : StackIsRam s) (hsp : r.sp = (s.push v).sp)
    (hmem : r.mem = (s.push v).mem) (hmap : r.map = (s.push v).map) :
    r.sp + 1 = s.sp ∧ r.readAs .stack (stackAddr (r.sp + 1)) = v := by
  have htop : r.sp + 1 = s.sp := by
    rw [hsp, State.push_eq]
    exact BitVec.sub_add_cancel s.sp 1
  have hkind : s.map.kindAt (stackAddr s.sp) = .ram := hram s.sp
  have hholds : (r.kindAt (stackAddr s.sp)).holds = true := by
    rw [State.kindAt, hmap, State.push_eq, hkind]
    rfl
  refine ⟨htop, ?_⟩
  rw [htop, State.readAs_of_holds .stack hholds, hmem, State.push_eq, MemMap.read_store, if_pos ⟨rfl, hkind⟩]

/-- Settles O55. -/
theorem pushesStoreBelowTheStack : Obligations.PushesStoreBelowTheStack := by
  intro s f hf
  have hpush : encode f.2.1 = [f.1] ∧ exec f.2.1 s = .next (s.push f.2.2) := by
    simp only [List.mem_cons, List.not_mem_nil, or_false] at hf
    obtain rfl | rfl | rfl | rfl := hf
    · exact ⟨rfl, exec_pha s⟩
    · exact ⟨rfl, exec_phx s⟩
    · exact ⟨rfl, exec_phy s⟩
    · exact ⟨rfl, exec_php s⟩
  obtain ⟨hbytes, hexec⟩ := hpush
  refine ⟨hbytes, _, hexec, ?_, ?_, rfl⟩
  · rw [State.read_push, if_pos rfl]
  · intro x hx
    rw [State.read_push, if_neg hx]

/-- Settles O56. -/
theorem pullsLoadFromTheStack : Obligations.PullsLoadFromTheStack := by
  intro s v
  refine ⟨⟨rfl, rfl, rfl, rfl⟩, ?_, ?_, ?_, ?_⟩
  · rw [exec_pla, State.pull_eq, State.lda_eq]; rfl
  · rw [exec_plx, State.pull_eq, State.ldx_eq]; rfl
  · rw [exec_ply, State.pull_eq, State.ldy_eq]; rfl
  · rw [exec_plp, State.pull_eq]; rfl

/-- Settles O26: the pulls load the byte above S, which is the pushed one. -/
theorem pullsUndoPushes : Obligations.PullsUndoPushes := by
  intro s t r hram f hf hexec hsp hmem hmap
  have hpush : exec f.1 s = .next (s.push f.2) := by
    simp only [List.mem_cons, List.not_mem_nil, or_false] at hf
    obtain rfl | rfl | rfl := hf
    · exact exec_pha s
    · exact exec_phx s
    · exact exec_phy s
  obtain rfl : s.push f.2 = t := Host.Outcome.next.inj (hpush.symm.trans hexec)
  obtain ⟨htop, hbyte⟩ := State.readAs_stack_of_push hram hsp hmem hmap
  obtain ⟨-, hpla, hplx, hply, -⟩ := pullsLoadFromTheStack r
  rw [hbyte, htop] at hpla hplx hply
  exact ⟨hpla, hplx, hply⟩

end Sys2Proof.Machine
end

section
/-! PROOFS. Decimal mode (R16, R182, R183): the two digits of a number below 100, and the sums and differences of valid
BCD bytes. -/

namespace Sys2Proof.Machine

open Sys2Proof.Statements

theorem decOf_le_of_validBcd {b : Byte} (h : validBcd b = true) : decOf b ≤ 99 := by
  simp only [validBcd, Bool.and_eq_true, decide_eq_true_eq] at h
  unfold decOf
  omega

theorem toNat_bcdOf {n : Nat} (h : n ≤ 99) : (bcdOf n).toNat = 16 * (n / 10) + n % 10 := by
  unfold bcdOf
  rw [BitVec.toNat_ofNat]
  omega

theorem validBcd_bcdOf {n : Nat} (h : n ≤ 99) : validBcd (bcdOf n) = true := by
  simp only [validBcd, toNat_bcdOf h, Bool.and_eq_true, decide_eq_true_eq]
  omega

theorem decOf_bcdOf {n : Nat} (h : n ≤ 99) : decOf (bcdOf n) = n := by
  unfold decOf
  rw [toNat_bcdOf h]
  omega

theorem validBcd_addDecimal (a m : Byte) (c v : Bool) : validBcd (addDecimal a m c v).r = true :=
  validBcd_bcdOf (by omega)

/-- The sum of two valid BCD bytes, its hundreds in the carry (R182). -/
theorem decOf_addDecimal {a m : Byte} (c v : Bool) (ha : validBcd a = true) (hm : validBcd m = true) :
    100 * (addDecimal a m c v).c.toNat + decOf (addDecimal a m c v).r = decOf a + decOf m + c.toNat := by
  have hle := decOf_le_of_validBcd ha
  have hle' := decOf_le_of_validBcd hm
  have hc := c.toNat_le
  show 100 * (decide (100 ≤ decimalSum a m c)).toNat + decOf (bcdOf (decimalSum a m c % 100)) = decimalSum a m c
  have hlt : decimalSum a m c < 200 := by
    unfold decimalSum
    omega
  rw [decOf_bcdOf (by omega)]
  by_cases h : 100 ≤ decimalSum a m c
  · simp only [h, decide_true, Bool.toNat_true]
    omega
  · simp only [h, decide_false, Bool.toNat_false]
    omega

/-- The difference of two valid BCD bytes lies from -100 to 99. -/
theorem decimalDiff_bounds {a m : Byte} (c : Bool) (ha : validBcd a = true) (hm : validBcd m = true) :
    -100 ≤ decimalDiff a m c ∧ decimalDiff a m c ≤ 99 := by
  have hle := decOf_le_of_validBcd ha
  have hle' := decOf_le_of_validBcd hm
  have hc := c.toNat_le
  unfold decimalDiff
  omega

theorem validBcd_subDecimal {a m : Byte} (c v : Bool) (ha : validBcd a = true) (hm : validBcd m = true) :
    validBcd (subDecimal a m c v).r = true := by
  obtain ⟨hlow, hhigh⟩ := decimalDiff_bounds c ha hm
  refine validBcd_bcdOf ?_
  split <;> omega

/-- The difference of two valid BCD bytes, with 100 borrowed where the carry ends 0 (R183). -/
theorem decOf_subDecimal {a m : Byte} (c v : Bool) (ha : validBcd a = true) (hm : validBcd m = true) :
    (decOf (subDecimal a m c v).r : Int) - 100 * (1 - (subDecimal a m c v).c.toNat) =
      decOf a - decOf m - (1 - c.toNat) := by
  obtain ⟨hlow, hhigh⟩ := decimalDiff_bounds c ha hm
  show (decOf (bcdOf (if decimalDiff a m c < 0 then decimalDiff a m c + 100 else decimalDiff a m c).toNat) : Int) -
      100 * (1 - (decide (0 ≤ decimalDiff a m c)).toNat) = decimalDiff a m c
  by_cases h : decimalDiff a m c < 0
  · have hneg : ¬ 0 ≤ decimalDiff a m c := by omega
    rw [if_pos h, decOf_bcdOf (by omega)]
    simp only [hneg, decide_false, Bool.toNat_false]
    omega
  · have hnonneg : 0 ≤ decimalDiff a m c := by omega
    rw [if_neg h, decOf_bcdOf (by omega)]
    simp only [hnonneg, decide_true, Bool.toNat_true]
    omega

theorem exec_of_mem_adcForms {b : Byte} {w : Addr} {s : State} {f : Byte × Instr × Byte}
    (hf : f ∈ adcForms b w s) : exec f.2.1 s = .next (s.adc f.2.2) := by
  simp only [adcForms, List.mem_cons, List.not_mem_nil, or_false] at hf
  obtain rfl | rfl | rfl | rfl | rfl | rfl | rfl | rfl | rfl := hf <;> rfl

theorem exec_of_mem_sbcForms {b : Byte} {w : Addr} {s : State} {f : Byte × Instr × Byte}
    (hf : f ∈ sbcForms b w s) : exec f.2.1 s = .next (s.sbc f.2.2) := by
  simp only [sbcForms, List.mem_cons, List.not_mem_nil, or_false] at hf
  obtain rfl | rfl | rfl | rfl | rfl | rfl | rfl | rfl | rfl := hf <;> rfl

/-- Settles O38. -/
theorem decimalAdcAddsDecimalNumbers : Obligations.DecimalAdcAddsDecimalNumbers := by
  intro b w s hd f hf ha hm
  have hexec := (exec_of_mem_adcForms hf).trans (congrArg _ (State.adc_decimal hd ha hm))
  exact ⟨_, hexec, validBcd_addDecimal _ _ _ (Config.decimalV s.draws),
    decOf_addDecimal _ (Config.decimalV s.draws) ha hm, rfl⟩

/-- Settles O39. -/
theorem decimalSbcSubtractsDecimalNumbers : Obligations.DecimalSbcSubtractsDecimalNumbers := by
  intro b w s hd f hf ha hm
  have hexec := (exec_of_mem_sbcForms hf).trans (congrArg _ (State.sbc_decimal hd ha hm))
  exact ⟨_, hexec, validBcd_subDecimal _ (Config.decimalV s.draws) ha hm,
    decOf_subDecimal _ (Config.decimalV s.draws) ha hm, rfl⟩

end Sys2Proof.Machine
end

section
/-! PROOFS. Memory as data, and the state after reset: equal contents are equal lists (R40), and what the spec fixes of
reset (R45, R300, R301). -/

namespace Sys2Proof.Machine

theorem Memory.risesFrom_cons {low k : Nat} {v : Byte} {m : Memory} :
    Memory.risesFrom low ((k, v) :: m) = true ↔
      low ≤ k ∧ k < 65536 ∧ v ≠ Memory.unlisted ∧ Memory.risesFrom (k + 1) m = true := by
  simp [Memory.risesFrom, and_assoc]

/-- An address that does not read as an unlisted one lies at or above the first entry. -/
theorem Memory.first_le_of_read_ne {low k a : Nat} {v : Byte} {m : Memory}
    (h : Memory.risesFrom low ((k, v) :: m) = true)
    (ha : Memory.read ((k, v) :: m) a ≠ Memory.unlisted) : k ≤ a := by
  obtain ⟨-, hk, hv, hm⟩ := Memory.risesFrom_cons.mp h
  have hfrom : Memory.risesFrom k ((k, v) :: m) = true := Memory.risesFrom_cons.mpr ⟨le_refl k, hk, hv, hm⟩
  by_contra hlt
  exact ha (Memory.read_below hfrom (by omega))

/-- The first entry reads as its byte, which an unlisted address never does. -/
theorem Memory.read_first_ne {low k : Nat} {v : Byte} {m : Memory}
    (h : Memory.risesFrom low ((k, v) :: m) = true) : Memory.read ((k, v) :: m) k ≠ Memory.unlisted := by
  obtain ⟨-, -, hv, -⟩ := Memory.risesFrom_cons.mp h
  rwa [Memory.read_cons, if_pos rfl]

/-- Entry by entry: the first entry of one is that of the other, for each is at the lowest address that does not read
as an unlisted one. -/
theorem Memory.eq_of_read_eq {m n : Memory} {low : Nat} (hm : Memory.risesFrom low m = true)
    (hn : Memory.risesFrom low n = true) (hread : ∀ a < 65536, Memory.read m a = Memory.read n a) : m = n := by
  induction m generalizing n low with
  | nil =>
    cases n with
    | nil => rfl
    | cons d n =>
      have hd := (Memory.risesFrom_cons.mp hn).2.1
      exact absurd (hread d.1 hd).symm (Memory.read_first_ne hn)
  | cons c m ih =>
    obtain ⟨k, v⟩ := c
    obtain ⟨-, hk, -, hm'⟩ := Memory.risesFrom_cons.mp hm
    cases n with
    | nil => exact absurd (hread k hk) (Memory.read_first_ne hm)
    | cons d n =>
      obtain ⟨j, w⟩ := d
      obtain ⟨-, hj, -, hn'⟩ := Memory.risesFrom_cons.mp hn
      have hjk : j ≤ k := Memory.first_le_of_read_ne hn (hread k hk ▸ Memory.read_first_ne hm)
      have hkj : k ≤ j := Memory.first_le_of_read_ne hm (hread j hj ▸ Memory.read_first_ne hn)
      obtain rfl : k = j := le_antisymm hkj hjk
      obtain rfl : v = w := by simpa [Memory.read_cons] using hread k hk
      have hrest : ∀ a < 65536, Memory.read m a = Memory.read n a := by
        intro a ha
        by_cases hak : k = a
        · rw [Memory.read_below hm' (by omega), Memory.read_below hn' (by omega)]
        · simpa [Memory.read_cons, hak] using hread a ha
      rw [ih hm' hn' hrest]

/-- Settles O17. -/
theorem canonicalMemoriesThatReadAlikeAreEqual : Obligations.CanonicalMemoriesThatReadAlikeAreEqual := by
  intro m n hm hn hread
  refine Memory.eq_of_read_eq hm hn fun a ha => ?_
  have haddr := hread (BitVec.ofNat 16 a)
  rwa [BitVec.toNat_ofNat, Nat.mod_eq_of_lt ha] at haddr

/-- Settles O16. -/
theorem resetMemoryIsCanonical : Obligations.ResetMemoryIsCanonical :=
  Memory.wf_nil

/-- At reset every address is RAM (R69), so a read of any purpose gives what is stored. -/
theorem State.readAs_reset (u : Access) (a : Addr) :
    State.reset.readAs u a = Memory.read State.reset.mem a.toNat :=
  State.readAs_of_holds u (congrArg AreaKind.holds (MemMap.kindAt_nil a))

/-- Settles O18. -/
theorem resetStateOfTheSpec : Obligations.ResetStateOfTheSpec := by
  refine ⟨rfl, rfl, rfl, ?_⟩
  rw [State.readAs_reset, State.readAs_reset]
  rfl

end Sys2Proof.Machine
end

section
/-! PROOFS. Bits 5 and 4 of P (R29, R30): what a load of P from a byte and a push after it make of the byte. -/

namespace Sys2Proof.Machine

open Sys2Proof.Statements

/-- Bits 5 and 4 hold no state (R29, R30): a byte loaded into P and its image with B = 1 agree but for these two,
which the image sets. -/
theorem statusByte_flagsFrom (v : Byte) : statusByte true (flagsFrom v) = v ||| 0x30#8 := by
  revert v
  decide

/-- Settles O27. -/
theorem plpThenPhpForcesBitsFiveAndFour : Obligations.PlpThenPhpForcesBitsFiveAndFour := by
  intro s t u hplp hphp
  obtain ⟨-, -, -, -, hloads⟩ := pullsLoadFromTheStack s
  obtain rfl := Host.Outcome.next.inj (hloads.symm.trans hplp)
  obtain rfl := Host.Outcome.next.inj ((exec_php _).symm.trans hphp)
  refine ⟨?_, BitVec.add_sub_cancel s.sp 1⟩
  rw [State.read_push, if_pos rfl, statusByte_flagsFrom]
  rfl

end Sys2Proof.Machine
end

section
/-! PROOFS. The frame of every meaning, said once: the fields of the state that an instruction can change, each among
those that the spec lists its op code for (R20 to R24, R37, R41, R46, R130). -/

namespace Sys2Proof.Machine

open Sys2Proof.Statements

/-! ### Fields of the state, and what it is to change no others -/

/-- The fields of the state, the flags one by one. -/
inductive State.Field where
  | a | x | y | sp | pc | n | v | d | i | z | c | mem | map | nmiPending | iBefore | draws | steps | env

/-- The field is in `t` as it was in `s`. -/
def State.Field.SameIn (s t : State) : State.Field → Prop
  | .a => t.a = s.a
  | .x => t.x = s.x
  | .y => t.y = s.y
  | .sp => t.sp = s.sp
  | .pc => t.pc = s.pc
  | .n => t.p.n = s.p.n
  | .v => t.p.v = s.p.v
  | .d => t.p.d = s.p.d
  | .i => t.p.i = s.p.i
  | .z => t.p.z = s.p.z
  | .c => t.p.c = s.p.c
  | .mem => t.mem = s.mem
  | .map => t.map = s.map
  | .nmiPending => t.nmiPending = s.nmiPending
  | .iBefore => t.iBefore = s.iBefore
  | .draws => t.draws = s.draws
  | .steps => t.steps = s.steps
  | .env => t.env = s.env

theorem State.Field.SameIn.trans {s t u : State} {f : State.Field} (hst : f.SameIn s t) (htu : f.SameIn t u) :
    f.SameIn s u := by
  cases f <;> exact Eq.trans htu hst

/-- From `s` to `t` no field changes but those of `fs`. -/
def State.ChangesOnly (s : State) (fs : List State.Field) (t : State) : Prop := ∀ f, f ∉ fs → f.SameIn s t

theorem State.ChangesOnly.refl (s : State) : s.ChangesOnly [] s := by
  intro f _
  cases f <;> rfl

theorem State.ChangesOnly.trans {s t u : State} {fs gs : List State.Field} (hst : s.ChangesOnly fs t)
    (htu : t.ChangesOnly gs u) : s.ChangesOnly (fs ++ gs) u := by
  intro f hf
  rw [List.mem_append, not_or] at hf
  exact (hst f hf.1).trans (htu f hf.2)

/-! ### The writes of one register, of flags and of memory -/

theorem State.changesOnly_setA (s : State) (v : Byte) : s.ChangesOnly [.a] (s.setA v) := by
  intro f hf
  cases f with
  | a => simp at hf
  | _ => rfl

theorem State.changesOnly_setX (s : State) (v : Byte) : s.ChangesOnly [.x] (s.setX v) := by
  intro f hf
  cases f with
  | x => simp at hf
  | _ => rfl

theorem State.changesOnly_setY (s : State) (v : Byte) : s.ChangesOnly [.y] (s.setY v) := by
  intro f hf
  cases f with
  | y => simp at hf
  | _ => rfl

theorem State.changesOnly_setS (s : State) (v : Byte) : s.ChangesOnly [.sp] (s.setS v) := by
  intro f hf
  cases f with
  | sp => simp at hf
  | _ => rfl

theorem State.changesOnly_setPc (s : State) (target : Addr) : s.ChangesOnly [.pc] (s.setPc target) := by
  intro f hf
  cases f with
  | pc => simp at hf
  | _ => rfl

theorem State.changesOnly_write (s : State) (a : Addr) (v : Byte) : s.ChangesOnly [.mem] (s.write a v) := by
  intro f hf
  cases f with
  | mem => simp at hf
  | _ => rfl

theorem State.changesOnly_setP (s : State) (p : Flags) : s.ChangesOnly [.n, .v, .d, .i, .z, .c] (s.setP p) := by
  intro f hf
  cases f with
  | n | v | d | i | z | c => simp at hf
  | _ => rfl

theorem State.changesOnly_setNZ (s : State) (v : Byte) : s.ChangesOnly [.n, .z] (s.setNZ v) := by
  intro f hf
  cases f with
  | n | z => simp at hf
  | _ => rfl

theorem State.changesOnly_setNZC (s : State) (n z c : Bool) :
    s.ChangesOnly [.n, .z, .c] (s.setP { s.p with n := n, z := z, c := c }) := by
  intro f hf
  cases f with
  | n | z | c => simp at hf
  | _ => rfl

theorem State.changesOnly_setNVZ (s : State) (n v z : Bool) :
    s.ChangesOnly [.n, .v, .z] (s.setP { s.p with n := n, v := v, z := z }) := by
  intro f hf
  cases f with
  | n | v | z => simp at hf
  | _ => rfl

theorem State.changesOnly_setV (s : State) (v : Bool) : s.ChangesOnly [.v] (s.setP { s.p with v := v }) := by
  intro f hf
  cases f with
  | v => simp at hf
  | _ => rfl

theorem State.changesOnly_setD (s : State) (d : Bool) : s.ChangesOnly [.d] (s.setP { s.p with d := d }) := by
  intro f hf
  cases f with
  | d => simp at hf
  | _ => rfl

theorem State.changesOnly_setI (s : State) (i : Bool) : s.ChangesOnly [.i] (s.setP { s.p with i := i }) := by
  intro f hf
  cases f with
  | i => simp at hf
  | _ => rfl

theorem State.changesOnly_setZ (s : State) (z : Bool) : s.ChangesOnly [.z] (s.setP { s.p with z := z }) := by
  intro f hf
  cases f with
  | z => simp at hf
  | _ => rfl

theorem State.changesOnly_setC (s : State) (c : Bool) : s.ChangesOnly [.c] (s.setP { s.p with c := c }) := by
  intro f hf
  cases f with
  | c => simp at hf
  | _ => rfl

/-! ### The operations that meanings share -/

theorem State.changesOnly_lda (s : State) (m : Byte) : s.ChangesOnly [.a, .n, .z] (s.lda m) :=
  (s.changesOnly_setA m).trans (State.changesOnly_setNZ _ m)

theorem State.changesOnly_ldx (s : State) (m : Byte) : s.ChangesOnly [.x, .n, .z] (s.ldx m) :=
  (s.changesOnly_setX m).trans (State.changesOnly_setNZ _ m)

theorem State.changesOnly_ldy (s : State) (m : Byte) : s.ChangesOnly [.y, .n, .z] (s.ldy m) :=
  (s.changesOnly_setY m).trans (State.changesOnly_setNZ _ m)

/-- What ADC and SBC change: A, N, V, Z, C, and in decimal mode the count of draws (R180 to R183). -/
def sumFields (d : Bool) : List State.Field :=
  if d then [.a, .n, .v, .z, .c, .draws] else [.a, .n, .v, .z, .c]

theorem State.changesOnly_sum (s : State) (r : Byte) (n v z c : Bool) {k : Nat}
    (hk : s.p.d = false → k = s.draws) :
    s.ChangesOnly (sumFields s.p.d)
      { s with a := r, p := { s.p with n := n, v := v, z := z, c := c }, draws := k } := by
  intro f hf
  cases hd : s.p.d with
  | true =>
    cases f with
    | a | n | v | z | c | draws => simp [sumFields, hd] at hf
    | _ => rfl
  | false =>
    cases f with
    | a | n | v | z | c => simp [sumFields, hd] at hf
    | draws => exact hk hd
    | _ => rfl

theorem State.changesOnly_adc (s : State) (m : Byte) : s.ChangesOnly (sumFields s.p.d) (s.adc m) := by
  obtain ⟨r, n, v, z, c, k, h, hk⟩ := s.adc_frame m
  exact h ▸ s.changesOnly_sum r n v z c hk

theorem State.changesOnly_sbc (s : State) (m : Byte) : s.ChangesOnly (sumFields s.p.d) (s.sbc m) := by
  obtain ⟨r, n, v, z, c, k, h, hk⟩ := s.sbc_frame m
  exact h ▸ s.changesOnly_sum r n v z c hk

theorem State.changesOnly_writeNZ (s : State) (ea : Addr) (r : Byte) :
    s.ChangesOnly [.mem, .n, .z] ((s.write ea r).setNZ r) :=
  (s.changesOnly_write ea r).trans (State.changesOnly_setNZ _ r)

theorem State.changesOnly_tsb (s : State) (ea : Addr) : s.ChangesOnly [.mem, .z] (s.tsb ea) :=
  (s.changesOnly_write ea _).trans (State.changesOnly_setZ _ _)

theorem State.changesOnly_trb (s : State) (ea : Addr) : s.ChangesOnly [.mem, .z] (s.trb ea) :=
  (s.changesOnly_write ea _).trans (State.changesOnly_setZ _ _)

theorem State.changesOnly_shiftA (s : State) (f : Shift) : s.ChangesOnly [.a, .n, .z, .c] (s.shiftA f) :=
  (s.changesOnly_setA _).trans (State.changesOnly_setNZC _ _ _ _)

theorem State.changesOnly_shiftMemory (s : State) (f : Shift) (ea : Addr) :
    s.ChangesOnly [.mem, .n, .z, .c] (s.shiftMemory f ea) :=
  (s.changesOnly_write ea _).trans (State.changesOnly_setNZC _ _ _ _)

theorem State.changesOnly_branchIf (s : State) (cond : Bool) (off : Byte) :
    s.ChangesOnly [.pc] (s.branchIf cond off) := by
  rw [State.branchIf_eq]
  exact s.changesOnly_setPc _

theorem State.changesOnly_push (s : State) (v : Byte) : s.ChangesOnly [.mem, .sp] (s.push v) :=
  (s.changesOnly_write _ v).trans (State.changesOnly_setS _ _)

theorem State.changesOnly_pull (s : State) : s.ChangesOnly [.sp] s.pull.2 :=
  s.changesOnly_setS _

theorem State.changesOnly_jumpToSubroutine (s : State) (target : Addr) :
    s.ChangesOnly [.sp, .pc, .mem] (s.jumpToSubroutine target) := by
  rw [State.jumpToSubroutine_eq]
  intro f hf
  cases f with
  | sp | pc | mem => simp at hf
  | _ => rfl

theorem State.changesOnly_returnFromSubroutine (s : State) : s.ChangesOnly [.sp, .pc] s.returnFromSubroutine := by
  rw [State.returnFromSubroutine_eq]
  intro f hf
  cases f with
  | sp | pc => simp at hf
  | _ => rfl

theorem State.changesOnly_enter (s : State) (b : Bool) (vector : Addr) :
    s.ChangesOnly [.sp, .pc, .d, .i, .mem] (s.enter b vector) := by
  rw [State.enter_eq]
  intro f hf
  cases f with
  | sp | pc | d | i | mem => simp at hf
  | _ => rfl

theorem State.changesOnly_breakSequence (s : State) :
    s.ChangesOnly [.pc, .sp, .pc, .d, .i, .mem] s.breakSequence :=
  (s.changesOnly_setPc _).trans (State.changesOnly_enter _ true 0xFFFE#16)

theorem State.changesOnly_returnFromInterrupt (s : State) :
    s.ChangesOnly [.sp, .pc, .n, .v, .d, .i, .z, .c] s.returnFromInterrupt := by
  rw [State.returnFromInterrupt_eq]
  intro f hf
  cases f with
  | sp | pc | n | v | d | i | z | c => simp at hf
  | _ => rfl

/-! ### The op codes that the spec lists for each field -/

/-- The op codes of the instructions that can change the field, in decimal mode or not (R20 to R24, R37, R130; for
the count of draws R182 and R183). -/
def State.Field.writers (d : Bool) : State.Field → List Byte
  | .a => aWriters
  | .x => xWriters
  | .y => yWriters
  | .sp => sWriters
  | .pc => pcWriters
  | .n => nWriters
  | .v => vWriters
  | .d => dWriters
  | .i => iWriters
  | .z => zWriters
  | .c => cWriters
  | .mem => memoryWriters
  | .draws => if d then adcSbc else []
  | .map | .nmiPending | .iBefore | .steps | .env => []

theorem State.Field.mem_writers_draws {d : Bool} {op : Byte} :
    op ∈ State.Field.draws.writers d ↔ d = true ∧ op ∈ adcSbc := by
  cases d <;> simp [State.Field.writers]

theorem opcodeOf_of_encode {i : Instr} {op : Byte} {operand : List Byte} (hbytes : encode i = op :: operand) :
    opcodeOf i = op :=
  congrArg (List.headD · 0x00#8) hbytes

/-- Whether an instruction is listed for some fields is a matter of its first byte. -/
theorem listed_of_encode {i : Instr} {op : Byte} {operand : List Byte} {fs : List State.Field}
    (hbytes : encode i = op :: operand) (hlisted : ∀ d, ∀ f ∈ fs, op ∈ f.writers d) (d : Bool) :
    ∀ f ∈ fs, opcodeOf i ∈ f.writers d :=
  opcodeOf_of_encode hbytes ▸ hlisted d

/-- ADC and SBC are listed for all that they change. -/
theorem listed_sumFields {i : Instr} {op : Byte} {operand : List Byte}
    (hbytes : encode i = op :: operand) (hop : op ∈ adcSbc) (d : Bool) :
    ∀ f ∈ sumFields d, opcodeOf i ∈ f.writers d := by
  have hall : ∀ op ∈ adcSbc, ∀ d, ∀ f ∈ sumFields d, op ∈ f.writers d := by decide
  exact opcodeOf_of_encode hbytes ▸ hall op hop d

/-- Every meaning completes (R113, R270), and changes only fields that its op code is listed for. The cases are the
operations that meanings share; the last one is that of NOP and the reserved op codes, which change nothing. -/
theorem exec_changesOnly (i : Instr) (s : State) :
    ∃ t fs, exec i s = .next t ∧ s.ChangesOnly fs t ∧ ∀ f ∈ fs, opcodeOf i ∈ f.writers s.p.d := by
  cases i with
  | ldaIzx | ldaZpg | ldaImm | ldaAbs | ldaIzy | ldaIzp | ldaZpx | ldaAby | ldaAbx
  | andIzx | andZpg | andImm | andAbs | andIzy | andIzp | andZpx | andAby | andAbx
  | oraIzx | oraZpg | oraImm | oraAbs | oraIzy | oraIzp | oraZpx | oraAby | oraAbx
  | eorIzx | eorZpg | eorImm | eorAbs | eorIzy | eorIzp | eorZpx | eorAby | eorAbx
  | txa | tya | ina | dea =>
    exact ⟨_, _, rfl, s.changesOnly_lda _, listed_of_encode rfl (by decide) _⟩
  | ldxImm | ldxZpg | ldxAbs | ldxZpy | ldxAby | tax | tsx | inx | dex =>
    exact ⟨_, _, rfl, s.changesOnly_ldx _, listed_of_encode rfl (by decide) _⟩
  | ldyImm | ldyZpg | ldyAbs | ldyZpx | ldyAbx | tay | iny | dey =>
    exact ⟨_, _, rfl, s.changesOnly_ldy _, listed_of_encode rfl (by decide) _⟩
  | staIzx | staZpg | staAbs | staIzy | staIzp | staZpx | staAby | staAbx | stxZpg | stxAbs | stxZpy
  | styZpg | styAbs | styZpx | stzZpg | stzZpx | stzAbs | stzAbx =>
    exact ⟨_, _, rfl, s.changesOnly_write _ _, listed_of_encode rfl (by decide) _⟩
  | adcIzx | adcZpg | adcImm | adcAbs | adcIzy | adcIzp | adcZpx | adcAby | adcAbx =>
    exact ⟨_, _, rfl, s.changesOnly_adc _, listed_sumFields rfl (by decide) _⟩
  | sbcIzx | sbcZpg | sbcImm | sbcAbs | sbcIzy | sbcIzp | sbcZpx | sbcAby | sbcAbx =>
    exact ⟨_, _, rfl, s.changesOnly_sbc _, listed_sumFields rfl (by decide) _⟩
  | cmpIzx | cmpZpg | cmpImm | cmpAbs | cmpIzy | cmpIzp | cmpZpx | cmpAby | cmpAbx
  | cpxImm | cpxZpg | cpxAbs | cpyImm | cpyZpg | cpyAbs =>
    exact ⟨_, _, rfl, s.changesOnly_setNZC _ _ _, listed_of_encode rfl (by decide) _⟩
  | incZpg | incAbs | incZpx | incAbx | decZpg | decAbs | decZpx | decAbx =>
    exact ⟨_, _, rfl, s.changesOnly_writeNZ _ _, listed_of_encode rfl (by decide) _⟩
  | bitZpg | bitAbs | bitZpx | bitAbx =>
    exact ⟨_, _, rfl, s.changesOnly_setNVZ _ _ _, listed_of_encode rfl (by decide) _⟩
  | bitImm => exact ⟨_, _, rfl, s.changesOnly_setZ _, listed_of_encode rfl (by decide) _⟩
  | tsbZpg | tsbAbs => exact ⟨_, _, rfl, s.changesOnly_tsb _, listed_of_encode rfl (by decide) _⟩
  | trbZpg | trbAbs => exact ⟨_, _, rfl, s.changesOnly_trb _, listed_of_encode rfl (by decide) _⟩
  | aslAcc | lsrAcc | rolAcc | rorAcc =>
    exact ⟨_, _, rfl, s.changesOnly_shiftA _, listed_of_encode rfl (by decide) _⟩
  | aslZpg | aslAbs | aslZpx | aslAbx | lsrZpg | lsrAbs | lsrZpx | lsrAbx
  | rolZpg | rolAbs | rolZpx | rolAbx | rorZpg | rorAbs | rorZpx | rorAbx =>
    exact ⟨_, _, rfl, s.changesOnly_shiftMemory _ _, listed_of_encode rfl (by decide) _⟩
  | bpl | bmi | bvc | bvs | bra | bcc | bcs | bne | beq =>
    exact ⟨_, _, rfl, s.changesOnly_branchIf _ _, listed_of_encode rfl (by decide) _⟩
  | jmpAbs | jmpInd | jmpIax =>
    exact ⟨_, _, rfl, s.changesOnly_setPc _, listed_of_encode rfl (by decide) _⟩
  | jsr => exact ⟨_, _, rfl, s.changesOnly_jumpToSubroutine _, listed_of_encode rfl (by decide) _⟩
  | rts => exact ⟨_, _, rfl, s.changesOnly_returnFromSubroutine, listed_of_encode rfl (by decide) _⟩
  | pha | phx | phy | php => exact ⟨_, _, rfl, s.changesOnly_push _, listed_of_encode rfl (by decide) _⟩
  | pla =>
    exact ⟨_, _, rfl, s.changesOnly_pull.trans (State.changesOnly_lda _ _), listed_of_encode rfl (by decide) _⟩
  | plx =>
    exact ⟨_, _, rfl, s.changesOnly_pull.trans (State.changesOnly_ldx _ _), listed_of_encode rfl (by decide) _⟩
  | ply =>
    exact ⟨_, _, rfl, s.changesOnly_pull.trans (State.changesOnly_ldy _ _), listed_of_encode rfl (by decide) _⟩
  | plp =>
    exact ⟨_, _, rfl, s.changesOnly_pull.trans (State.changesOnly_setP _ _), listed_of_encode rfl (by decide) _⟩
  | txs => exact ⟨_, _, rfl, s.changesOnly_setS _, listed_of_encode rfl (by decide) _⟩
  | clc | sec => exact ⟨_, _, rfl, s.changesOnly_setC _, listed_of_encode rfl (by decide) _⟩
  | cld | sed => exact ⟨_, _, rfl, s.changesOnly_setD _, listed_of_encode rfl (by decide) _⟩
  | cli | sei => exact ⟨_, _, rfl, s.changesOnly_setI _, listed_of_encode rfl (by decide) _⟩
  | clv => exact ⟨_, _, rfl, s.changesOnly_setV _, listed_of_encode rfl (by decide) _⟩
  | brk => exact ⟨_, _, rfl, s.changesOnly_breakSequence, listed_of_encode rfl (by decide) _⟩
  | rti => exact ⟨_, _, rfl, s.changesOnly_returnFromInterrupt, listed_of_encode rfl (by decide) _⟩
  | _ => exact ⟨s, [], rfl, .refl s, by simp⟩

/-- A field that the op code is not listed for stays as it was. -/
theorem exec_same {i : Instr} {s t : State} (hexec : exec i s = .next t) (f : State.Field)
    (hop : opcodeOf i ∉ f.writers s.p.d) : f.SameIn s t := by
  obtain ⟨t', fs, hexec', hframe, hlisted⟩ := exec_changesOnly i s
  obtain rfl : t' = t := Host.Outcome.next.inj (hexec'.symm.trans hexec)
  exact hframe f fun hf => hop (hlisted f hf)

/-- Settles O19. -/
theorem registersChangeOnlyByTheirWriters : Obligations.RegistersChangeOnlyByTheirWriters := by
  intro i s t hexec
  exact ⟨exec_same hexec .a, exec_same hexec .x, exec_same hexec .y, exec_same hexec .sp, exec_same hexec .pc⟩

/-- Settles O20. -/
theorem flagsChangeOnlyByTheirWriters : Obligations.FlagsChangeOnlyByTheirWriters := by
  intro i s t hexec
  exact ⟨exec_same hexec .n, exec_same hexec .v, exec_same hexec .d, exec_same hexec .i, exec_same hexec .z,
    exec_same hexec .c⟩

/-- Settles O22: no op code is listed for the inputs, and those of ADC and SBC are listed for the count of draws in
decimal mode alone. -/
theorem instructionsDoNotTouchTheInputs : Obligations.InstructionsDoNotTouchTheInputs := by
  intro i s t hexec
  have hnone := List.not_mem_nil (a := opcodeOf i)
  have hdraws (h : s.p.d = false ∨ opcodeOf i ∉ adcSbc) : t.draws = s.draws := by
    refine exec_same hexec .draws fun hop => ?_
    obtain ⟨hd, hsum⟩ := State.Field.mem_writers_draws.mp hop
    exact h.elim (by simp [hd]) (absurd hsum)
  exact ⟨exec_same hexec .nmiPending hnone, exec_same hexec .map hnone, exec_same hexec .iBefore hnone,
    exec_same hexec .env hnone, exec_same hexec .steps hnone, hdraws⟩

end Sys2Proof.Machine
end

section
/-! PROOFS. Indexed effective addresses (R79, R136 to R139): an index is added as an unsigned number, modulo 256 where
the sum is extended from a byte, modulo 65536 where the extended index is added to an address. -/

namespace Sys2Proof.Machine

/-- The sum of two bytes stays in page zero (R138, R139). -/
theorem toNat_zext16_add (zp i : Byte) : (zext16 (zp + i)).toNat = (zp.toNat + i.toNat) % 256 :=
  (toNat_zext16 (zp + i)).trans (BitVec.toNat_add zp i)

/-- An index added to an address carries into the page (R136, R137, R144). -/
theorem toNat_add_zext16 (w : Addr) (i : Byte) : (w + zext16 i).toNat = (w.toNat + i.toNat) % 65536 := by
  rw [BitVec.toNat_add, toNat_zext16]

/-- Settles O28. -/
theorem directModesAddTheIndexUnsigned : Obligations.DirectModesAddTheIndexUnsigned := by
  intro s b w
  exact ⟨toNat_zext16 b, toNat_zext16_add b s.x, toNat_zext16_add b s.y,
    rfl, toNat_add_zext16 w s.x, toNat_add_zext16 w s.y⟩

end Sys2Proof.Machine
end

section
/-! PROOFS. The encoding (R100 to R114): every instruction stands in the cell of its op code, so decoding gives back
what encoding wrote; no op code is refused, and each has the length of R101. -/

namespace Sys2Proof

open Sys2Proof.Machine Sys2Proof.Statements

/-! ### Decode after encode -/

/-- The instruction stands in the cell, with its operand where the cell has one (R102). -/
inductive OpCell.Has : OpCell → Instr → Prop where
  | one (i : Instr) : (OpCell.one i).Has i
  | two (f : Byte → Instr) (b : Byte) : (OpCell.two f).Has (f b)
  | three (f : Addr → Instr) (w : Addr) : (OpCell.three f).Has (f w)

/-- The op code map misses no instruction (R105, R112). The cases are the three sizes of R102. -/
theorem opcodeCell_has (i : Instr) : (opcodeCell (opcodeOf i)).Has i := by
  cases i with
  | brk | php | plp | rti | pha | rts | pla | phy | ply | phx | plx | clc | sec | cli | sei | clv | cld | sed
  | aslAcc | rolAcc | lsrAcc | rorAcc | ina | dea | inx | iny | dex | dey | txa | tya | txs | tay | tax | tsx | nop
  | rsv03 | rsv07 | rsv0b | rsv0f | rsv13 | rsv17 | rsv1b | rsv1f | rsv23 | rsv27 | rsv2b | rsv2f
  | rsv33 | rsv37 | rsv3b | rsv3f | rsv43 | rsv47 | rsv4b | rsv4f | rsv53 | rsv57 | rsv5b | rsv5f
  | rsv63 | rsv67 | rsv6b | rsv6f | rsv73 | rsv77 | rsv7b | rsv7f | rsv83 | rsv87 | rsv8b | rsv8f
  | rsv93 | rsv97 | rsv9b | rsv9f | rsva3 | rsva7 | rsvab | rsvaf | rsvb3 | rsvb7 | rsvbb | rsvbf
  | rsvc3 | rsvc7 | rsvcb | rsvcf | rsvd3 | rsvd7 | rsvdb | rsvdf | rsve3 | rsve7 | rsveb | rsvef
  | rsvf3 | rsvf7 | rsvfb | rsvff => exact .one _
  | jsr | jmpAbs | jmpInd | jmpIax | rsv5c | rsvdc | rsvfc
  | oraAbs | oraAby | oraAbx | andAbs | andAby | andAbx | eorAbs | eorAby | eorAbx | adcAbs | adcAby | adcAbx
  | staAbs | staAby | staAbx | ldaAbs | ldaAby | ldaAbx | cmpAbs | cmpAby | cmpAbx | sbcAbs | sbcAby | sbcAbx
  | aslAbs | aslAbx | rolAbs | rolAbx | lsrAbs | lsrAbx | rorAbs | rorAbx | incAbs | incAbx | decAbs | decAbx
  | tsbAbs | trbAbs | bitAbs | bitAbx | stxAbs | styAbs | stzAbs | stzAbx | ldxAbs | ldxAby | ldyAbs | ldyAbx
  | cpxAbs | cpyAbs => exact .three _ _
  | _ => exact .two _ _

/-- An instruction of an op code's cell is decoded from its own bytes, whatever follows them (R114). -/
theorem decode_encode_append_of_has {op : Byte} {i : Instr} (h : (opcodeCell op).Has i) (rest : List Byte) :
    decode (encode i ++ rest) = .ok (i, rest) := by
  have hcell := opcodeCell_encodes op
  generalize hop : opcodeCell op = cell at h hcell
  cases h with
  | one i =>
    rw [OpCell.encodes_one.mp hcell, List.singleton_append, decode_cons, hop]
  | two f b =>
    rw [OpCell.encodes_two.mp hcell, List.cons_append, decode_cons, hop]
    rfl
  | three f w =>
    rw [OpCell.encodes_three.mp hcell, List.cons_append, decode_cons, hop]
    simp [addrBytes]

/-- Settles O1. -/
theorem decodeEncodeAgree : Obligations.DecodeEncodeAgree := by
  intro i rest
  exact decode_encode_append_of_has (opcodeCell_has i) rest

/-- Settles O2. -/
theorem encodeDecodeAgree : Obligations.EncodeDecodeAgree := by
  intro bs rest i hdecode
  exact eq_encode_append_of_decode hdecode

/-- Settles O4: each word is the encoding of its instruction, which the round trip reads back. -/
theorem sampleWordsDecode : Obligations.SampleWordsDecode := by
  exact ⟨decodeEncodeAgree (.ldaImm 0x7F#8) [], decodeEncodeAgree (.stzAbx 0x3000#16) [],
    decodeEncodeAgree (.jmpIax 0x1234#16) [], decodeEncodeAgree (.adcIzp 0x50#8) [],
    decodeEncodeAgree .aslAcc [], decodeEncodeAgree (.bra 0xFE#8) [],
    decodeEncodeAgree .brk [], decodeEncodeAgree (.rsv5c 0x1234#16) []⟩

/-! ### Lengths -/

theorem OpCell.length_bounds (c : OpCell) : 1 ≤ c.length ∧ c.length ≤ 3 := by
  cases c <;> simp [OpCell.length]

/-- The lengths that R101 lists are those of the cells of the map, row by row (R102, R105, R112). -/
theorem instrLength_eq_length : ∀ op : Byte, instrLength op = (opcodeCell op).length := by
  decide

/-- Two bytes after the op code are enough for every cell, and those it does not read are left over (R113). -/
theorem exists_decode_eq_drop_length (op b1 b2 : Byte) (rest : List Byte) :
    ∃ i, decode (op :: b1 :: b2 :: rest) = .ok (i, (op :: b1 :: b2 :: rest).drop (opcodeCell op).length) := by
  rw [decode_cons]
  cases opcodeCell op with
  | one i => exact ⟨i, rfl⟩
  | two f => exact ⟨f b1, rfl⟩
  | three f => exact ⟨f (joinBytes b2 b1), rfl⟩

/-- Settles O3. -/
theorem noEncodingIsIllegal : Obligations.NoEncodingIsIllegal := by
  intro op b1 b2 rest
  rw [instrLength_eq_length op]
  obtain ⟨hpos, hthree⟩ := (opcodeCell op).length_bounds
  exact ⟨hpos, hthree, exists_decode_eq_drop_length op b1 b2 rest⟩

/-! ### What runs, and what changes nothing -/

/-- Settles O12. -/
theorem everyInstructionCompletes : Obligations.EveryInstructionCompletes := by
  intro i s
  obtain ⟨t, hexec, -⟩ := exec_onlyStores i s
  exact ⟨t, hexec⟩

/-- Settles O58: each row of the three tables has the bytes of its format (R102) and a meaning that answers the state
it was given (R255, R258). -/
theorem nopAndReservedOpCodesChangeNothing : Obligations.NopAndReservedOpCodesChangeNothing := by
  intro b w s
  simp only [List.forall_mem_cons, List.not_mem_nil, false_implies, implies_true, and_true]
  and_intros <;> rfl

end Sys2Proof
end

section
/-! PROOFS. What instructions without a store leave of memory (R130, R148), the two bytes of a pointer in page zero
(R141 to R145), and the offset of a branch as a signed number (R140, R220). -/

namespace Sys2Proof.Machine

/-! ### Memory under the instructions that do not store -/

/-- Settles O21: a byte reads as before where memory, map and count of steps are as before, and no op code is listed
for the last two. -/
theorem memoryChangesOnlyByStoringInstructions : Obligations.MemoryChangesOnlyByStoringInstructions := by
  intro i s t hexec hop x
  have hmem : t.mem = s.mem := exec_same hexec .mem hop
  have hmap : t.map = s.map := exec_same hexec .map List.not_mem_nil
  have hsteps : t.steps = s.steps := exec_same hexec .steps List.not_mem_nil
  exact State.readAs_congr .data x hmem hmap hsteps

/-! ### Pointers in page zero -/

/-- A zero-page address as the number that is its byte (R9, R103). -/
theorem zext16_eq_ofNat (b : Byte) : zext16 b = BitVec.ofNat 16 b.toNat :=
  (BitVec.ofNat_toNat 16 b).symm

/-- A pointer at `z` in page zero: low byte at `z`, high byte at `z + 1` modulo 256 (R11, R142). -/
theorem State.toNat_read16zp (s : State) (z : Byte) :
    (s.read16zp z).toNat =
      256 * (s.readAs .pointer (BitVec.ofNat 16 ((z.toNat + 1) % 256))).toNat +
        (s.readAs .pointer (BitVec.ofNat 16 z.toNat)).toNat := by
  have hnext : (z + 1).toNat = (z.toNat + 1) % 256 := BitVec.toNat_add z 1
  rw [State.read16zp, toNat_joinBytes, zext16_eq_ofNat, zext16_eq_ofNat, hnext]

/-- Settles O29. -/
theorem indirectModesReadPointersInPageZero : Obligations.IndirectModesReadPointersInPageZero := by
  intro s b
  refine ⟨?izx, s.toNat_read16zp b, toNat_add_zext16 (s.eaIzp b) s.y⟩
  case izx =>
    have hindexed : (b + s.x).toNat = (b.toNat + s.x.toNat) % 256 := BitVec.toNat_add b s.x
    rw [State.eaIzx, State.toNat_read16zp, hindexed, Nat.mod_add_mod]

/-! ### Branches -/

/-- The target of a branch (R140): the offset counts as a signed number from the next instruction. -/
theorem State.targetRel_eq_ofInt (s : State) (off : Byte) :
    s.targetRel off = BitVec.ofInt 16 (s.pc.toNat + off.toInt) := by
  rw [BitVec.ofInt_add, BitVec.ofInt_natCast, BitVec.ofNat_toNat, BitVec.setWidth_eq]
  rfl

/-- Settles O52: each row of the table is a branch on its condition. -/
theorem branchesGoToOffsetFromNextInstruction : Obligations.BranchesGoToOffsetFromNextInstruction := by
  intro b s f hf
  have hbranch : encode f.2.1 = [f.1, b] ∧ exec f.2.1 s = .next (s.branchIf f.2.2 b) := by
    simp only [List.mem_cons, List.not_mem_nil, or_false] at hf
    obtain rfl | rfl | rfl | rfl | rfl | rfl | rfl | rfl | rfl := hf <;> exact ⟨rfl, rfl⟩
  obtain ⟨hbytes, hexec⟩ := hbranch
  refine ⟨hbytes, ?_⟩
  rw [hexec, State.branchIf_eq, State.targetRel_eq_ofInt]

end Sys2Proof.Machine
end

section
/-! PROOFS. Loads, stores and transfers (R161 to R173): every load and every transfer but TXS is one of the three
register writes that set N and Z; every store is one write through the memory map. -/

namespace Sys2Proof.Machine

open Sys2Proof.Statements

/-! ### What a load and a store do -/

/-- The load of A, with N and Z written out (R161). -/
theorem State.lda_eq_nz (s : State) (m : Byte) :
    s.lda m = { s with a := m, p := { s.p with n := m.msb, z := m == 0#8 } } :=
  s.lda_eq m

/-- The load of X, with N and Z written out (R162). -/
theorem State.ldx_eq_nz (s : State) (m : Byte) :
    s.ldx m = { s with x := m, p := { s.p with n := m.msb, z := m == 0#8 } } :=
  s.ldx_eq m

/-- The load of Y, with N and Z written out (R163). -/
theorem State.ldy_eq_nz (s : State) (m : Byte) :
    s.ldy m = { s with y := m, p := { s.p with n := m.msb, z := m == 0#8 } } :=
  s.ldy_eq m

/-- The data byte at the address of a store (R74): the stored byte if that is RAM, else the byte as it was. -/
theorem State.read_write_same (s : State) (a : Addr) (v : Byte) : (s.write a v).read a = afterStore s a v := by
  simp [State.read_write, afterStore]

/-! ### The rows of the tables -/

/-- Settles O30: each row of the three tables has its op code and is the load of its register from its operand byte. -/
theorem loadsSetRegisterNAndZ : Obligations.LoadsSetRegisterNAndZ := by
  intro b w s
  simp only [← State.lda_eq_nz, ← State.ldx_eq_nz, ← State.ldy_eq_nz, List.forall_mem_cons, List.not_mem_nil,
    false_implies, implies_true, and_true]
  and_intros <;> rfl

/-- Settles O31: each row of the tables has its op code and is one write at its effective address. -/
theorem storesWriteOneByte : Obligations.StoresWriteOneByte := by
  intro b w s f hf
  have hstore : (encode f.2.1).head? = some f.1 ∧ exec f.2.1 s = .next (s.write f.2.2.1 f.2.2.2) := by
    revert f
    simp only [List.cons_append, List.nil_append, List.forall_mem_cons, List.not_mem_nil, false_implies,
      implies_true, and_true]
    and_intros <;> rfl
  obtain ⟨hop, hexec⟩ := hstore
  exact ⟨hop, _, hexec, s.read_write_same _ _, fun x hx => s.read_write_ne _ hx, rfl⟩

/-- Settles O32: five transfers load the destination from the source register; TXS writes S alone (R173). -/
theorem transfersCopyAndSetNZ : Obligations.TransfersCopyAndSetNZ := by
  intro s
  refine ⟨⟨rfl, rfl, rfl, rfl, rfl, rfl⟩, ?tax, ?tay, ?txa, ?tya, ?tsx, ?txs⟩
  case tax => rw [← State.ldx_eq_nz]; rfl
  case tay => rw [← State.ldy_eq_nz]; rfl
  case txa => rw [← State.lda_eq_nz]; rfl
  case tya => rw [← State.lda_eq_nz]; rfl
  case tsx => rw [← State.ldx_eq_nz]; rfl
  case txs => rfl

end Sys2Proof.Machine
end

section
/-! PROOFS. Arithmetic (R180 to R195): the exact sum behind a binary ADC, of which a binary SBC is the case of the
complemented operand and a comparison the case without borrow; the digit-correcting algorithms of decimal mode; and
the increments and decrements. -/

namespace Sys2Proof.Machine

open Sys2Proof.Statements

/-! ### The binary sum -/

/-- The result and the carry of a binary ADC are the low byte and the high bit of the exact sum (R180). -/
theorem toNat_addBinary (a m : Byte) (c : Bool) :
    256 * (addBinary a m c).c.toNat + (addBinary a m c).r.toNat = a.toNat + m.toNat + c.toNat := by
  have hc := c.toNat_le
  have hr : (addBinary a m c).r.toNat = (a.toNat + m.toNat + c.toNat) % 256 := BitVec.toNat_ofNat _ 8
  have hcarry : (addBinary a m c).c = decide (256 ≤ a.toNat + m.toNat + c.toNat) := rfl
  rw [hr, hcarry]
  by_cases hover : 256 ≤ a.toNat + m.toNat + c.toNat
  · simp only [hover, decide_true, Bool.toNat_true]
    omega
  · simp only [hover, decide_false, Bool.toNat_false]
    omega

/-- The sign bit of a byte counts 128 of its number, and the other bits count less. -/
theorem toNat_bounds_of_msb (b : Byte) : 128 * b.msb.toNat ≤ b.toNat ∧ b.toNat < 128 * b.msb.toNat + 128 := by
  cases h : b.msb with
  | false => exact ⟨Nat.zero_le _, BitVec.toNat_lt_of_msb_false h⟩
  | true => exact ⟨BitVec.le_toNat_of_msb_true h, b.isLt⟩

/-- The signed number of a byte. -/
theorem toInt_eq_toNat_sub_msb (b : Byte) : b.toInt = b.toNat - 256 * b.msb.toNat := by
  rw [BitVec.toInt_eq_msb_cond]
  cases b.msb <;> simp

/-- V after a binary ADC: the operands have one sign and the result has the other (R180). -/
theorem addBinary_v_iff_signs (a m : Byte) (c : Bool) :
    (addBinary a m c).v = true ↔
      a.msb.toNat = m.msb.toNat ∧ (addBinary a m c).r.msb.toNat ≠ a.msb.toNat := by
  have hv : (addBinary a m c).v = ((a ^^^ (addBinary a m c).r) &&& (m ^^^ (addBinary a m c).r)).msb := rfl
  rw [hv, BitVec.msb_and, BitVec.msb_xor, BitVec.msb_xor]
  cases a.msb <;> cases m.msb <;> cases (addBinary a m c).r.msb <;> decide

/-- V after a binary ADC says exactly where the signed sum is none of a byte (R180, R195). -/
theorem addBinary_v_iff (a m : Byte) (c : Bool) :
    (addBinary a m c).v = true ↔ a.toInt + m.toInt + c.toNat < -128 ∨ 127 < a.toInt + m.toInt + c.toNat := by
  have hsum := toNat_addBinary a m c
  have hc := c.toNat_le
  have hcarry := (addBinary a m c).c.toNat_le
  have ha := toNat_bounds_of_msb a
  have hm := toNat_bounds_of_msb m
  have hr := toNat_bounds_of_msb (addBinary a m c).r
  rw [addBinary_v_iff_signs, toInt_eq_toNat_sub_msb, toInt_eq_toNat_sub_msb]
  omega

/-! ### The binary difference as a sum -/

theorem toNat_complement (m : Byte) : (255#8 - m).toNat = 255 - m.toNat := by
  rw [BitVec.toNat_sub, BitVec.toNat_ofNat]
  omega

theorem msb_complement (m : Byte) : (255#8 - m).msb = !m.msb := by
  rw [BitVec.msb_eq_decide, BitVec.msb_eq_decide, toNat_complement, ← decide_not, decide_eq_decide]
  omega

theorem toInt_complement (m : Byte) : (255#8 - m).toInt = -1 - m.toInt := by
  have hm := toNat_bounds_of_msb m
  have hcomplement := toNat_bounds_of_msb (255#8 - m)
  rw [toNat_complement] at hcomplement
  rw [toInt_eq_toNat_sub_msb, toInt_eq_toNat_sub_msb, toNat_complement]
  omega

/-- The two overflow formulas, of R180 and of R181, agree once the operand is complemented: where A and the result
differ in sign, the result has the sign of M or that of the complement of M. -/
theorem overflow_complement (a m r : Byte) :
    ((a ^^^ r) &&& ((255#8 - m) ^^^ r)).msb = ((a ^^^ m) &&& (a ^^^ r)).msb := by
  rw [BitVec.msb_and, BitVec.msb_and, BitVec.msb_xor, BitVec.msb_xor, BitVec.msb_xor, msb_complement]
  cases a.msb <;> cases m.msb <;> cases r.msb <;> rfl

/-- A binary SBC is the binary ADC of the complement, with the same incoming carry (R181, R195). -/
theorem subBinary_eq_addBinary_complement (a m : Byte) (c : Bool) :
    subBinary a m c = addBinary a (255#8 - m) c := by
  simp only [subBinary, addBinary, toNat_complement, overflow_complement]

/-- The result and the carry of a binary SBC, with 256 borrowed where the carry ends 0 (R181). -/
theorem toNat_subBinary (a m : Byte) (c : Bool) :
    ((subBinary a m c).r.toNat : Int) - 256 * (1 - (subBinary a m c).c.toNat) =
      a.toNat - m.toNat - (1 - c.toNat) := by
  have hsum := toNat_addBinary a (255#8 - m) c
  rw [toNat_complement] at hsum
  rw [subBinary_eq_addBinary_complement]
  omega

/-- V after a binary SBC says exactly where the signed difference is none of a byte (R181, R195). -/
theorem subBinary_v_iff (a m : Byte) (c : Bool) :
    (subBinary a m c).v = true ↔
      a.toInt - m.toInt - (1 - c.toNat) < -128 ∨ 127 < a.toInt - m.toInt - (1 - c.toNat) := by
  rw [subBinary_eq_addBinary_complement, addBinary_v_iff, toInt_complement]
  omega

/-! ### Comparison -/

/-- Without an incoming borrow, the result of a binary SBC is the difference modulo 256 (R181). -/
theorem subBinary_true_r (a m : Byte) : (subBinary a m true).r = a - m := by
  apply BitVec.eq_of_toNat_eq
  have hr : (subBinary a m true).r.toNat = (a.toNat + (255 - m.toNat) + 1) % 256 := BitVec.toNat_ofNat _ 8
  rw [hr, BitVec.toNat_sub]
  omega

/-- Without an incoming borrow, a binary SBC leaves none exactly where A is not below the operand (R181, R184). -/
theorem subBinary_true_c (a m : Byte) : (subBinary a m true).c = decide (m.toNat ≤ a.toNat) := by
  have hc : (subBinary a m true).c = decide (256 ≤ a.toNat + (255 - m.toNat) + 1) := rfl
  rw [hc, decide_eq_decide]
  omega

/-- The flags of a comparison are N, Z and C of the binary SBC without an incoming borrow (R184, R195). -/
theorem Flags.compare_eq_subBinary (p : Flags) (reg m : Byte) :
    p.compare reg m =
      { p with
        n := (subBinary reg m true).r.msb
        z := (subBinary reg m true).r == 0#8
        c := (subBinary reg m true).c } := by
  have hz : (reg == m) = (reg - m == 0#8) := by
    rw [Bool.eq_iff_iff, beq_iff_eq, beq_iff_eq]
    exact sub_eq_zero.symm
  rw [subBinary_true_r, subBinary_true_c, ← hz]
  rfl

/-! ### The algorithms that correct the digits -/

/-- The two digits of a valid BCD byte. -/
theorem digits_le_of_validBcd {b : Byte} (h : validBcd b = true) : b.toNat / 16 ≤ 9 ∧ b.toNat % 16 ≤ 9 := by
  simpa [validBcd] using h

/-- The byte of the two digits `x` and `y` is the low byte of any number with those digits there, as after a correction
by 6 or by 96 (R182, R183). -/
theorem bcdOf_eq_ofInt {n : Nat} {t : Int} (x y : Int) (hx : 0 ≤ x ∧ x ≤ 9) (hy : 0 ≤ y ∧ y ≤ 9)
    (hn : n = 10 * x + y) (ht : t % 256 = 16 * x + y) : bcdOf n = BitVec.ofInt 8 t := by
  apply BitVec.eq_of_toNat_eq
  rw [toNat_bcdOf (by omega), BitVec.toNat_ofInt]
  show _ = (t % 256).toNat
  omega

/-- The algorithm of R182 on valid BCD operands: the corrected low digit carries into the high one, and that into C, as
the digits of the decimal sum do. -/
theorem nibbleAdd_eq_addDecimal {a m : Byte} (c v : Bool) (ha : validBcd a = true) (hm : validBcd m = true) :
    nibbleAdd a m c = ((addDecimal a m c v).r, (addDecimal a m c v).c) := by
  obtain ⟨hah, hal⟩ := digits_le_of_validBcd ha
  obtain ⟨hmh, hml⟩ := digits_le_of_validBcd hm
  have hc := c.toNat_le
  simp only [nibbleAdd, addDecimal, Prod.mk.injEq, decide_eq_decide]
  simp only [decimalSum, decOf]
  constructor
  · rw [← BitVec.ofInt_natCast, eq_comm]
    refine bcdOf_eq_ofInt ((a.toNat / 16 + m.toNat / 16 + (a.toNat % 16 + m.toNat % 16 + c.toNat) / 10) % 10 : Nat)
      ((a.toNat % 16 + m.toNat % 16 + c.toNat) % 10 : Nat) (by omega) (by omega) (by omega) ?_
    split_ifs <;> omega
  · split_ifs <;> omega

/-- The algorithm of R183 on valid BCD operands: each corrected digit is the digit of the decimal difference, and the
binary difference borrows where the decimal one does. -/
theorem nibbleSub_eq_subDecimal {a m : Byte} (c v : Bool) (ha : validBcd a = true) (hm : validBcd m = true) :
    nibbleSub a m c = ((subDecimal a m c v).r, (subDecimal a m c v).c) := by
  obtain ⟨hah, hal⟩ := digits_le_of_validBcd ha
  obtain ⟨hmh, hml⟩ := digits_le_of_validBcd hm
  have hc := c.toNat_le
  simp only [nibbleSub, subDecimal, Prod.mk.injEq, decide_eq_decide]
  simp only [decimalDiff, decOf]
  constructor
  · rw [eq_comm]
    refine bcdOf_eq_ofInt ((a.toNat / 16 - m.toNat / 16 + (a.toNat % 16 - m.toNat % 16 + c.toNat - 1) / 10) % 10)
      ((a.toNat % 16 - m.toNat % 16 + c.toNat - 1) % 10) (by omega) (by omega) ?_ ?_
    · split_ifs <;> omega
    · split_ifs <;> omega
  · omega

/-! ### The rows of the tables -/

theorem encode_head_of_mem_adcForms {b : Byte} {w : Addr} {s : State} {f : Byte × Instr × Byte}
    (hf : f ∈ adcForms b w s) : (encode f.2.1).head? = some f.1 := by
  simp only [adcForms, List.mem_cons, List.not_mem_nil, or_false] at hf
  obtain rfl | rfl | rfl | rfl | rfl | rfl | rfl | rfl | rfl := hf <;> rfl

theorem encode_head_of_mem_sbcForms {b : Byte} {w : Addr} {s : State} {f : Byte × Instr × Byte}
    (hf : f ∈ sbcForms b w s) : (encode f.2.1).head? = some f.1 := by
  simp only [sbcForms, List.mem_cons, List.not_mem_nil, or_false] at hf
  obtain rfl | rfl | rfl | rfl | rfl | rfl | rfl | rfl | rfl := hf <;> rfl

/-- Every form of ADC with D = 0 takes the binary sum (R180). -/
theorem exec_adcForms_binary {b : Byte} {w : Addr} {s : State} {f : Byte × Instr × Byte} (hd : s.p.d = false)
    (hf : f ∈ adcForms b w s) : exec f.2.1 s = .next (s.takeSum (addBinary s.a f.2.2 s.p.c)) := by
  rw [exec_of_mem_adcForms hf, State.adc_binary _ hd]

/-- Every form of SBC with D = 0 takes the binary difference (R181). -/
theorem exec_sbcForms_binary {b : Byte} {w : Addr} {s : State} {f : Byte × Instr × Byte} (hd : s.p.d = false)
    (hf : f ∈ sbcForms b w s) : exec f.2.1 s = .next (s.takeSum (subBinary s.a f.2.2 s.p.c)) := by
  rw [exec_of_mem_sbcForms hf, State.sbc_binary _ hd]

/-- Settles O33. -/
theorem adcBinary : Obligations.AdcBinary := by
  intro b w s hd f hf
  exact ⟨encode_head_of_mem_adcForms hf, exec_adcForms_binary hd hf⟩

/-- Settles O34. -/
theorem sbcBinary : Obligations.SbcBinary := by
  intro b w s hd f hf
  exact ⟨encode_head_of_mem_sbcForms hf, exec_sbcForms_binary hd hf⟩

/-- Settles O35. -/
theorem adcCarryAndOverflowAreExact : Obligations.AdcCarryAndOverflowAreExact := by
  intro b w s hd f hf
  exact ⟨_, exec_adcForms_binary hd hf, toNat_addBinary _ _ _, addBinary_v_iff _ _ _⟩

/-- Settles O36: both facts are those of the sum with the complement. -/
theorem sbcBorrowAndOverflowAreExact : Obligations.SbcBorrowAndOverflowAreExact := by
  intro b w s hd f hf
  exact ⟨_, exec_sbcForms_binary hd hf, toNat_subBinary _ _ _, subBinary_v_iff _ _ _⟩

/-- Settles O37. -/
theorem sbcIsAdcOfTheComplement : Obligations.SbcIsAdcOfTheComplement := by
  intro m s hd
  have hsum : s.sbc m = s.adc (255#8 - m) := by
    rw [State.sbc_binary m hd, State.adc_binary _ hd, subBinary_eq_addBinary_complement]
  exact congrArg Host.Outcome.next hsum

/-- Settles O40. -/
theorem decimalAgreesWithNibbleAlgorithms : Obligations.DecimalAgreesWithNibbleAlgorithms := by
  intro m s hd ha hm
  have hadc : exec (.adcImm m) s = .next _ := congrArg Host.Outcome.next (State.adc_decimal hd ha hm)
  have hsbc : exec (.sbcImm m) s = .next _ := congrArg Host.Outcome.next (State.sbc_decimal hd ha hm)
  exact ⟨⟨_, hadc, (nibbleAdd_eq_addDecimal _ (Config.decimalV s.draws) ha hm).symm⟩,
    _, hsbc, (nibbleSub_eq_subDecimal _ (Config.decimalV s.draws) ha hm).symm⟩

/-- Settles O41: the free values are those of `drawDecimal`, whichever of the two operations it is. -/
theorem decimalOnInvalidBcdTouchesOnlyAAndFlags : Obligations.DecimalOnInvalidBcdTouchesOnlyAAndFlags := by
  intro b w s hd f hf hinvalid
  have hexec : exec f.2.1 s = .next s.drawDecimal := by
    rcases List.mem_append.mp hf with hadc | hsbc
    · rw [exec_of_mem_adcForms hadc, State.adc_invalid hd hinvalid]
    · rw [exec_of_mem_sbcForms hsbc, State.sbc_invalid hd hinvalid]
  exact ⟨_, _, _, _, _, hexec⟩

/-- Settles O42: each row of the table has its op code and compares its register with its operand byte. -/
theorem comparesSetNZC : Obligations.ComparesSetNZC := by
  intro b w s f hf
  have hcompare : (encode f.2.1).head? = some f.1 ∧
      exec f.2.1 s = .next (s.setP (s.p.compare f.2.2.1 f.2.2.2)) := by
    revert f
    simp only [List.cons_append, List.nil_append, List.forall_mem_cons, List.not_mem_nil, false_implies,
      implies_true, and_true]
    and_intros <;> rfl
  exact hcompare

/-- Settles O43: D = 0 and C = 1 make the SBC a binary one without an incoming borrow. -/
theorem compareIsSubtractionWithoutBorrow : Obligations.CompareIsSubtractionWithoutBorrow := by
  intro m s t u hd hc ht hu
  obtain rfl : s.cmp m = t := Host.Outcome.next.inj ht
  obtain rfl : s.sbc m = u := Host.Outcome.next.inj hu
  rw [State.cmp_eq, Flags.compare_eq_subBinary, State.sbc_binary m hd, hc]
  exact ⟨rfl, rfl, rfl, rfl, rfl⟩

/-! ### Increments and decrements -/

/-- Settles O44: each row of the tables has its op code, and is one write at its effective address with N and Z of
the byte written. -/
theorem incDecMemory : Obligations.IncDecMemory := by
  intro b w s f hf
  have hstep : (encode f.2.1).head? = some f.1 ∧
      exec f.2.1 s = .next ((s.write f.2.2.1 f.2.2.2).setNZ f.2.2.2) := by
    revert f
    simp only [List.cons_append, List.nil_append, List.forall_mem_cons, List.not_mem_nil, false_implies,
      implies_true, and_true]
    and_intros <;> rfl
  obtain ⟨hop, hexec⟩ := hstep
  exact ⟨hop, _, hexec, s.read_write_same _ _, fun x hx => s.read_write_ne _ hx, rfl⟩

/-- Settles O45: each is the load of its register with the next or the previous value. -/
theorem incDecRegisters : Obligations.IncDecRegisters := by
  intro s
  refine ⟨⟨rfl, rfl, rfl, rfl, rfl, rfl⟩, ?ina, ?dea, ?inx, ?iny, ?dex, ?dey⟩
  case ina => rw [← State.lda_eq_nz]; rfl
  case dea => rw [← State.lda_eq_nz]; rfl
  case inx => rw [← State.ldx_eq_nz]; rfl
  case iny => rw [← State.ldy_eq_nz]; rfl
  case dex => rw [← State.ldx_eq_nz]; rfl
  case dey => rw [← State.ldy_eq_nz]; rfl

end Sys2Proof.Machine
end

section
/-! PROOFS. Logic, bit tests and shifts (R200 to R210): each row of a table is the shared operation of its instruction,
and a rotation turns the nine-bit number of a byte and the carry, so that the two rotations undo each other. -/

namespace Sys2Proof.Machine

open Sys2Proof.Statements

/-! ### Rotations -/

/-- A rotation to the left doubles the byte and takes the old carry in at bit 0; the ninth bit goes to C (R209). -/
theorem toNat_shiftRol (v : Byte) (c : Bool) :
    256 * (shiftRol v c).2.toNat + (shiftRol v c).1.toNat = 2 * v.toNat + c.toNat := by
  have hr : (shiftRol v c).1.toNat = (2 * v.toNat + c.toNat) % 256 := BitVec.toNat_ofNat _ 8
  have hcarry : (shiftRol v c).2.toNat = v.toNat / 128 % 2 := Nat.toNat_testBit v.toNat 7
  have hc := c.toNat_le
  omega

/-- A rotation to the right halves the number of the byte with the old carry above it; bit 0 goes to C (R210). -/
theorem toNat_shiftRor (v : Byte) (c : Bool) :
    2 * (shiftRor v c).1.toNat + (shiftRor v c).2.toNat = 256 * c.toNat + v.toNat := by
  have hr : (shiftRor v c).1.toNat = (v.toNat / 2 + 128 * c.toNat) % 256 := BitVec.toNat_ofNat _ 8
  have hcarry : (shiftRor v c).2.toNat = v.toNat / 1 % 2 := Nat.toNat_testBit v.toNat 0
  have hc := c.toNat_le
  omega

/-- The nine-bit number of a byte and a carry above it determines both. -/
theorem byteWithCarry_eq_of_toNat_eq {x y : Byte × Bool}
    (h : 256 * x.2.toNat + x.1.toNat = 256 * y.2.toNat + y.1.toNat) : x = y :=
  have hr := x.1.isLt
  have hr' := y.1.isLt
  Prod.ext (BitVec.eq_of_toNat_eq (by omega)) (Function.LeftInverse.injective Bool.ofNat_toNat (by omega))

/-- `g` undoes `f`: from the result and the carry of `f` it gives back the operand and the old carry. -/
def Shift.Undoes (g f : Shift) : Prop := ∀ (v : Byte) (c : Bool), g (f v c).1 (f v c).2 = (v, c)

theorem shiftRor_undoes_shiftRol : Shift.Undoes shiftRor shiftRol := by
  intro v c
  have hrol := toNat_shiftRol v c
  have hror := toNat_shiftRor (shiftRol v c).1 (shiftRol v c).2
  have hc := c.toNat_le
  have hc' := (shiftRor (shiftRol v c).1 (shiftRol v c).2).2.toNat_le
  apply byteWithCarry_eq_of_toNat_eq
  dsimp only
  omega

theorem shiftRol_undoes_shiftRor : Shift.Undoes shiftRol shiftRor := by
  intro v c
  apply byteWithCarry_eq_of_toNat_eq
  rw [toNat_shiftRol, toNat_shiftRor]

/-- Where `g` undoes `f`, shifting A by `f` and then by `g` leaves everything but N and Z as it was (R206). -/
theorem State.shiftA_shiftA_of_undoes {f g : Shift} (h : Shift.Undoes g f) (s : State) :
    (s.shiftA f).shiftA g = { s with p := s.p.setNZ s.a } := by
  rw [State.shiftA_eq, State.shiftA_eq s f]
  dsimp only
  rw [h]
  rfl

/-- Settles O51: each rotation undoes the other, and what is left of the two is N and Z of A. -/
theorem rotatesUndoEachOther : Obligations.RotatesUndoEachOther := by
  intro s t u
  constructor
  · intro ht hu
    obtain rfl : s.shiftA shiftRol = t := Host.Outcome.next.inj ht
    obtain rfl : (s.shiftA shiftRol).shiftA shiftRor = u := Host.Outcome.next.inj hu
    rw [State.shiftA_shiftA_of_undoes shiftRor_undoes_shiftRol]
    rfl
  · intro ht hu
    obtain rfl : s.shiftA shiftRor = t := Host.Outcome.next.inj ht
    obtain rfl : (s.shiftA shiftRor).shiftA shiftRol = u := Host.Outcome.next.inj hu
    rw [State.shiftA_shiftA_of_undoes shiftRol_undoes_shiftRor]
    rfl

/-! ### The rows of the tables -/

/-- Settles O46: each row of the three tables has its op code and loads A with its combination of A and the operand. -/
theorem logicalOperationsOnA : Obligations.LogicalOperationsOnA := by
  intro b w s
  simp only [← State.lda_eq_nz, List.cons_append, List.nil_append, List.forall_mem_cons, List.not_mem_nil,
    false_implies, implies_true, and_true]
  and_intros <;> rfl

/-- Settles O47: each row of the table has its op code and is the memory form of BIT on its operand byte; the
immediate form is the test alone. -/
theorem bitTestsOperand : Obligations.BitTestsOperand := by
  intro b w s
  simp only [← State.bitMemory_eq, ← State.bitImmediate_eq]
  refine ⟨?memory, rfl, rfl⟩
  case memory =>
    simp only [List.forall_mem_cons, List.not_mem_nil, false_implies, implies_true, and_true]
    and_intros <;> rfl

/-- An instruction that writes one byte and P, and nothing else (R73, R74): what reads and registers are after it. -/
theorem exec_write_frame {i : Instr} {s : State} {ea : Addr} {r : Byte} {p : Flags}
    (hexec : exec i s = .next ((s.write ea r).setP p)) :
    ∃ t, exec i s = .next t ∧ t.read ea = afterStore s ea r ∧ (∀ x, x ≠ ea → t.read x = s.read x) ∧
      t = { s with mem := t.mem, p := p } :=
  ⟨_, hexec, s.read_write_same ea r, fun _ hx => s.read_write_ne r hx, rfl⟩

/-- Settles O48: each row of the two tables has its op code and is one write at its effective address, with Z of the
byte that was there. -/
theorem testAndSetResetBits : Obligations.TestAndSetResetBits := by
  intro b w s f hf
  have htest : (encode f.2.1).head? = some f.1 ∧
      exec f.2.1 s = .next ((s.write f.2.2.1 f.2.2.2).setP (s.p.testBits s.a (s.read f.2.2.1))) := by
    revert f
    simp only [List.cons_append, List.nil_append, List.forall_mem_cons, List.not_mem_nil, false_implies,
      implies_true, and_true]
    and_intros <;> rfl
  obtain ⟨hop, hexec⟩ := htest
  exact ⟨hop, exec_write_frame hexec⟩

/-- Settles O49: each row of the table is its op code and the shift of A by its function. -/
theorem shiftsOfA : Obligations.ShiftsOfA := by
  intro s
  simp only [List.forall_mem_cons, List.not_mem_nil, false_implies, implies_true, and_true]
  exact ⟨⟨rfl, congrArg Host.Outcome.next (s.shiftA_eq shiftAsl)⟩,
    ⟨rfl, congrArg Host.Outcome.next (s.shiftA_eq shiftLsr)⟩,
    ⟨rfl, congrArg Host.Outcome.next (s.shiftA_eq shiftRol)⟩,
    ⟨rfl, congrArg Host.Outcome.next (s.shiftA_eq shiftRor)⟩⟩

/-- Settles O50: each row of the four tables has its op code and is one write at its effective address, with N and Z
of the byte written and C the bit that left. -/
theorem shiftsOfMemory : Obligations.ShiftsOfMemory := by
  intro b w s f hf
  have hshift : (encode f.2.1).head? = some f.1 ∧
      exec f.2.1 s =
        .next ((s.write f.2.2.1 f.2.2.2.1).setP { s.p.setNZ f.2.2.2.1 with c := f.2.2.2.2 }) := by
    revert f
    simp only [List.cons_append, List.nil_append, List.forall_mem_cons, List.not_mem_nil, false_implies,
      implies_true, and_true]
    and_intros <;> rfl
  obtain ⟨hop, hexec⟩ := hshift
  exact ⟨hop, exec_write_frame hexec⟩

end Sys2Proof.Machine
end

section
/-! PROOFS. Jumps and subroutines (R230 to R233): a pointer read at an address that is a sum, and what a pushed address
leaves in page one, which is what the next pull of an address takes back. -/

namespace Sys2Proof.Machine

open Sys2Proof.Statements

/-! ### Jump targets -/

theorem exec_jmpAbs (w : Addr) (s : State) : exec (.jmpAbs w) s = .next { s with pc := w } := rfl

theorem exec_jmpInd (w : Addr) (s : State) :
    exec (.jmpInd w) s = .next { s with pc := s.read16 .pointer w } := rfl

theorem exec_jmpIax (w : Addr) (s : State) :
    exec (.jmpIax w) s = .next { s with pc := s.read16 .pointer (w + zext16 s.x) } := rfl

/-- A 16-bit value read at the address that a number denotes modulo 65536: its high byte is at the next number, whose
address carries into the page (R11). -/
theorem State.read16_ofNat (s : State) (u : Access) (n : Nat) :
    s.read16 u (BitVec.ofNat 16 n) =
      joinBytes (s.readAs u (BitVec.ofNat 16 (n + 1))) (s.readAs u (BitVec.ofNat 16 n)) := by
  have hnext : BitVec.ofNat 16 (n + 1) = BitVec.ofNat 16 n + 1 := BitVec.ofNat_add n 1
  rw [State.read16, hnext]

/-- An index added to an address, as the number that is their sum (R136). -/
theorem add_zext16_eq_ofNat (w : Addr) (i : Byte) : w + zext16 i = BitVec.ofNat 16 (w.toNat + i.toNat) :=
  BitVec.eq_of_toNat_eq ((toNat_add_zext16 w i).trans (BitVec.toNat_ofNat _ 16).symm)

/-- Settles O53. -/
theorem jumpTargets : Obligations.JumpTargets := by
  intro w s
  refine ⟨rfl, rfl, rfl, exec_jmpAbs w s, ?ind, ?iax⟩
  case ind =>
    have hw : BitVec.ofNat 16 w.toNat = w := (BitVec.ofNat_toNat 16 w).trans (BitVec.setWidth_eq w)
    have hpointer := s.read16_ofNat .pointer w.toNat
    rw [hw] at hpointer
    rw [exec_jmpInd, hpointer]
  case iax => rw [exec_jmpIax, add_zext16_eq_ofNat, State.read16_ofNat]

/-! ### An address on the stack -/

/-- Different values of S denote different addresses of page one (R22). -/
theorem stackAddr_injective : Function.Injective stackAddr :=
  Function.LeftInverse.injective (g := lowByte) (lowByte_joinBytes 0x01#8)

/-- The two bytes of a pushed address have places of their own, also where S wraps. -/
theorem stackAddr_sub_one_ne (sp : Byte) : stackAddr (sp - 1) ≠ stackAddr sp := by
  intro h
  have hsp : sp - 1 = sp := stackAddr_injective h
  bv_omega

theorem afterStore_of_ram {s : State} {a : Addr} (v : Byte) (h : s.kindAt a = .ram) : afterStore s a v = v :=
  if_pos h

/-- The data byte at any address after an address is pushed: its high byte at `0x0100 + S` and its low byte at the
next lower stack address, each if that is RAM, and every other byte as before (R231). -/
theorem State.read_pushAddr (s : State) (v : Addr) (x : Addr) :
    (s.pushAddr v).read x =
      if x = stackAddr s.sp then afterStore s x (highByte v)
      else if x = stackAddr (s.sp - 1) then afterStore s x (lowByte v)
      else s.read x := by
  have hlow : (s.pushAddr v).read x =
      if x = stackAddr (s.sp - 1) then afterStore (s.push (highByte v)) x (lowByte v)
      else (s.push (highByte v)).read x := State.read_push _ _ x
  have hkind : (s.push (highByte v)).kindAt x = s.kindAt x := rfl
  rw [hlow, afterStore, hkind, State.read_push]
  by_cases hx : x = stackAddr s.sp
  · have hne : x ≠ stackAddr (s.sp - 1) := hx ▸ (stackAddr_sub_one_ne s.sp).symm
    rw [if_neg hne, if_pos hx, if_pos hx]
  · simp only [if_neg hx, afterStore]

theorem State.read_jumpToSubroutine (s : State) (w x : Addr) :
    (s.jumpToSubroutine w).read x = (s.pushAddr (s.pc - 1)).read x := rfl

theorem exec_jsr (w : Addr) (s : State) : exec (.jsr w) s = .next (s.jumpToSubroutine w) := rfl

theorem exec_rts (s : State) :
    exec .rts s = .next (s.pullAddr.2.setPc (s.pullAddr.1 + 1)) := rfl

/-- Settles O54: JSR is one pushed address and RTS one pulled address. -/
theorem jsrPushesAndRtsPullsTheReturnAddress : Obligations.JsrPushesAndRtsPullsTheReturnAddress := by
  intro w s
  refine ⟨⟨rfl, _, exec_jsr w s, ?high, ?low, ?others, ?frame⟩, rfl, ?rts⟩
  case high => rw [State.read_jumpToSubroutine, State.read_pushAddr, if_pos rfl]
  case low =>
    rw [State.read_jumpToSubroutine, State.read_pushAddr, if_neg (stackAddr_sub_one_ne s.sp), if_pos rfl]
  case others =>
    intro x hhigh hlow
    rw [State.read_jumpToSubroutine, State.read_pushAddr, if_neg hhigh, if_neg hlow]
  case frame =>
    have hsp : s.sp - 1 - 1 = s.sp - 2 := BitVec.sub_sub s.sp 1 1
    rw [State.jumpToSubroutine_eq, hsp]
  case rts =>
    have hsp : s.sp + 1 + 1 = s.sp + 2 := BitVec.add_assoc s.sp 1 1
    rw [exec_rts, State.pullAddr_eq, hsp]
    rfl

/-- Where the stack page is RAM, a byte of it is read by a pull as it is read as data, in any state with the same memory
and map. -/
theorem State.readAs_stack_eq_read {r t : State} (hram : StackIsRam t) (hmem : r.mem = t.mem) (hmap : r.map = t.map)
    (b : Byte) : r.readAs .stack (stackAddr b) = t.read (stackAddr b) := by
  have hholds : (t.kindAt (stackAddr b)).holds = true := congrArg AreaKind.holds (hram b)
  have hholds' : (r.kindAt (stackAddr b)).holds = true := by rwa [State.kindAt, hmap]
  rw [State.read_eq, State.readAs_of_holds _ hholds, State.readAs_of_holds _ hholds', hmem]

/-- Where the stack page is RAM, pulling an address takes back the pushed one and restores S, in any state that has the
S, memory and map of the push. -/
theorem State.pullAddr_of_pushAddr {s r : State} {v : Addr} (hram : StackIsRam s) (hsp : r.sp = (s.pushAddr v).sp)
    (hmem : r.mem = (s.pushAddr v).mem) (hmap : r.map = (s.pushAddr v).map) :
    r.pullAddr = (v, { r with sp := s.sp }) := by
  have hnext : r.sp + 1 = s.sp - 1 := by
    rw [hsp, State.pushAddr_eq]
    exact BitVec.sub_add_cancel (s.sp - 1) 1
  have htop : s.sp - 1 + 1 = s.sp := BitVec.sub_add_cancel s.sp 1
  have hpulled : ∀ b, r.readAs .stack (stackAddr b) = (s.pushAddr v).read (stackAddr b) :=
    State.readAs_stack_eq_read (t := s.pushAddr v) hram hmem hmap
  have hlow : r.readAs .stack (stackAddr (s.sp - 1)) = lowByte v := by
    rw [hpulled, State.read_pushAddr, if_neg (stackAddr_sub_one_ne s.sp), if_pos rfl, afterStore_of_ram _ (hram _)]
  have hhigh : r.readAs .stack (stackAddr s.sp) = highByte v := by
    rw [hpulled, State.read_pushAddr, if_pos rfl, afterStore_of_ram _ (hram _)]
  rw [State.pullAddr_eq, hnext, htop, hlow, hhigh, joinBytes_highByte_lowByte]

/-- Settles O25: RTS pulls the address that JSR pushed, one less than that after the JSR. -/
theorem jsrThenRtsReturns : Obligations.JsrThenRtsReturns := by
  intro w s t r u hram hjsr hsp hmem hmap hrts
  obtain rfl : s.jumpToSubroutine w = t := Host.Outcome.next.inj hjsr
  have hpull : r.pullAddr = (s.pc - 1, { r with sp := s.sp }) := State.pullAddr_of_pushAddr hram hsp hmem hmap
  obtain rfl := Host.Outcome.next.inj ((exec_rts r).symm.trans hrts)
  rw [hpull]
  exact ⟨BitVec.sub_add_cancel s.pc 1, rfl, rfl, rfl, rfl, rfl⟩

end Sys2Proof.Machine
end

section
/-! PROOFS. Flag instructions, and interrupts as far as BRK and RTI go (R248 to R257, R279, R283): what an entry leaves
in page one and elsewhere, and that RTI takes back what an entry pushed. -/

namespace Sys2Proof.Machine

open Sys2Proof.Statements

/-! ### Flags -/

/-- Settles O57: each is a load of P in which one flag of the old P is replaced. -/
theorem flagInstructionsForceTheirFlag : Obligations.FlagInstructionsForceTheirFlag := by
  intro s
  exact ⟨⟨rfl, rfl, rfl, rfl, rfl, rfl, rfl⟩, rfl, rfl, rfl, rfl, rfl, rfl, rfl⟩

/-- The byte image of P holds all six flags, whatever its B is (R31, R32). -/
theorem flagsFrom_statusByte (b : Bool) (p : Flags) : flagsFrom (statusByte b p) = p := by
  have hbits : ∀ b n v d i z c : Bool, flagsFrom (statusByte b ⟨n, v, d, i, z, c⟩) = ⟨n, v, d, i, z, c⟩ := by
    decide
  exact hbits b p.n p.v p.d p.i p.z p.c

/-! ### The bytes of an entry -/

/-- The status byte of an entry has a place of its own, also where S wraps. -/
theorem stackAddr_sub_two_ne (sp : Byte) :
    stackAddr (sp - 2) ≠ stackAddr sp ∧ stackAddr (sp - 2) ≠ stackAddr (sp - 1) := by
  have hsp : sp - 2 ≠ sp := by bv_omega
  have hsp1 : sp - 2 ≠ sp - 1 := by bv_omega
  exact ⟨stackAddr_injective.ne hsp, stackAddr_injective.ne hsp1⟩

theorem entryByte_pch {s : State} (hram : StackIsRam s) (ret : Addr) (b : Bool) :
    entryByte s ret b (stackAddr s.sp) = highByte ret := by
  rw [entryByte, if_pos (hram _), if_pos rfl]

theorem entryByte_pcl {s : State} (hram : StackIsRam s) (ret : Addr) (b : Bool) :
    entryByte s ret b (stackAddr (s.sp - 1)) = lowByte ret := by
  rw [entryByte, if_pos (hram _), if_neg (stackAddr_sub_one_ne s.sp), if_pos rfl]

theorem entryByte_status {s : State} (hram : StackIsRam s) (ret : Addr) (b : Bool) :
    entryByte s ret b (stackAddr (s.sp - 2)) = statusByte b s.p := by
  obtain ⟨hne, hne1⟩ := stackAddr_sub_two_ne s.sp
  rw [entryByte, if_pos (hram _), if_neg hne, if_neg hne1, if_pos rfl]

/-! ### The entry -/

/-- A byte of RAM after a write through the map. -/
theorem MemMap.read_store_of_ram {map : MemMap} {x : Addr} (h : map.kindAt x = .ram) (m : Memory) (a : Addr)
    (v : Byte) : Memory.read (map.store m a v) x.toNat = if x = a then v else Memory.read m x.toNat := by
  rw [MemMap.read_store]
  by_cases hx : x = a
  · rw [if_pos ⟨hx, hx ▸ h⟩, if_pos hx]
  · rw [if_neg (hx ∘ And.left), if_neg hx]

/-- The memory after an entry, byte by byte: its three stores go to different addresses, and count where
these are RAM. -/
theorem State.read_enterMem (s : State) (b : Bool) (x : Addr) :
    Memory.read (s.enterMem b) x.toNat = entryByte s s.pc b x := by
  by_cases hram : s.map.kindAt x = .ram
  · have hsp : s.sp - 1 - 1 = s.sp - 2 := BitVec.sub_sub s.sp 1 1
    have hpcl_ne := stackAddr_sub_one_ne s.sp
    obtain ⟨hstatus_ne, hstatus_ne'⟩ := stackAddr_sub_two_ne s.sp
    rw [State.enterMem, hsp, Flags.image_eq_statusByte, entryByte, State.kindAt, if_pos hram]
    simp only [MemMap.read_store_of_ram hram]
    by_cases hpch : x = stackAddr s.sp
    · simp only [hpch, if_neg hstatus_ne.symm, if_neg hpcl_ne.symm]
    · by_cases hpcl : x = stackAddr (s.sp - 1)
      · simp only [hpcl, if_neg hstatus_ne'.symm, if_neg hpcl_ne]
      · simp only [if_neg hpch, if_neg hpcl]
  · have hstores : s.map.StoresTo s.mem (s.enterMem b) := ((MemMap.StoresTo.refl.store _ _).store _ _).store _ _
    rw [hstores.read_of_ne_ram hram, entryByte, State.kindAt, if_neg hram]

theorem ne_stackAddr_of_highByte_ne {x : Addr} (h : highByte x ≠ 0x01#8) (sp : Byte) : x ≠ stackAddr sp := by
  rintro rfl
  exact h (highByte_joinBytes 0x01#8 sp)

/-- The pushes of an entry leave what is read outside page one. -/
theorem State.readAs_enterMem (s : State) (b : Bool) (u : Access) {x : Addr} (h : highByte x ≠ 0x01#8) :
    ({ s with mem := s.enterMem b } : State).readAs u x = s.readAs u x := by
  have hne := ne_stackAddr_of_highByte_ne h
  have hstores : ({ s with mem := s.enterMem b } : State) =
      ((s.write (stackAddr s.sp) (highByte s.pc)).write (stackAddr (s.sp - 1)) (lowByte s.pc)).write
        (stackAddr (s.sp - 1 - 1)) (s.p.image b) := rfl
  simp only [hstores, State.readAs_write, hne, false_and, if_false]

/-- An entry through a vector outside page one (R279): the two bytes of the vector are those before the pushes. -/
theorem State.entryFrom_enter (s : State) (b : Bool) {vector : Addr} (hlow : highByte vector ≠ 0x01#8)
    (hhigh : highByte (vector + 1) ≠ 0x01#8) : EntryFrom s (s.enter b vector) s.pc b vector := by
  have hsp : s.sp - 1 - 1 - 1 = s.sp - 3 := by bv_omega
  rw [State.enter_eq, State.read16, State.readAs_enterMem s b _ hlow, State.readAs_enterMem s b _ hhigh, hsp]
  exact ⟨s.read_enterMem b, rfl, rfl, rfl, rfl, rfl, rfl, rfl⟩

/-! ### BRK and RTI -/

theorem exec_brk (s : State) : exec .brk s = .next s.breakSequence := rfl

theorem exec_rti (s : State) : exec .rti s = .next s.returnFromInterrupt := rfl

theorem State.entryFrom_breakSequence (s : State) : EntryFrom s s.breakSequence (s.pc + 1) true 0xFFFE#16 :=
  State.entryFrom_enter (s.setPc (s.pc + 1)) true (by decide) (by decide)

/-- Settles O59: BRK is an entry, which leaves the model's own fields and the pending NMI alone. -/
theorem brkTakesTheSoftwareInterrupt : Obligations.BrkTakesTheSoftwareInterrupt := by
  intro s
  obtain ⟨hnmi, -, hi, henv, hsteps, hdraws⟩ := instructionsDoNotTouchTheInputs .brk s _ (exec_brk s)
  have hbrk : opcodeOf .brk ∉ adcSbc := by decide
  exact ⟨rfl, _, exec_brk s, s.entryFrom_breakSequence, hnmi, hi, hdraws (.inr hbrk), hsteps, henv⟩

/-- Settles O60. -/
theorem rtiRestoresFlagsAndAddress : Obligations.RtiRestoresFlagsAndAddress := by
  intro s
  have htwo : s.sp + 1 + 1 = s.sp + 2 := BitVec.add_assoc s.sp 1 1
  have hthree : s.sp + 2 + 1 = s.sp + 3 := BitVec.add_assoc s.sp 2 1
  refine ⟨rfl, ?_⟩
  rw [exec_rti, State.returnFromInterrupt_eq, htwo, hthree]
  rfl

/-- Where the stack page is RAM, RTI takes back the flags, the address and S that an entry pushed, in any state that has
the S, memory and map of the entry (R283). -/
theorem exec_rti_of_entryFrom {s t r : State} {ret vector : Addr} {b : Bool} (hram : StackIsRam s)
    (hentry : EntryFrom s t ret b vector) (hsp : r.sp = t.sp) (hmem : r.mem = t.mem) (hmap : r.map = t.map) :
    exec .rti r = .next { r with sp := s.sp, p := s.p, pc := ret } := by
  obtain ⟨hbytes, hmapt, hspt, -⟩ := hentry
  have hramt : StackIsRam t := by
    intro a
    rw [State.kindAt, hmapt]
    exact hram a
  have hpulled : ∀ a, r.readAs .stack (stackAddr a) = entryByte s ret b (stackAddr a) := by
    intro a
    have hholds : (t.kindAt (stackAddr a)).holds = true := congrArg AreaKind.holds (hramt a)
    rw [State.readAs_stack_eq_read hramt hmem hmap, State.read_eq, State.readAs_of_holds _ hholds, hbytes]
  have hstatus : r.sp + 1 = s.sp - 2 := by bv_omega
  have hpcl : r.sp + 2 = s.sp - 1 := by bv_omega
  have hpch : r.sp + 3 = s.sp := by bv_omega
  obtain ⟨-, hrti⟩ := rtiRestoresFlagsAndAddress r
  rw [hrti, hpulled, hpulled, hpulled, hstatus, hpcl, hpch, entryByte_status hram, entryByte_pcl hram,
    entryByte_pch hram, flagsFrom_statusByte, joinBytes_highByte_lowByte]

/-- Settles O23: BRK is an entry that pushes the address after the skipped byte. -/
theorem brkThenRtiResumesAfterTheSkippedByte : Obligations.BrkThenRtiResumesAfterTheSkippedByte := by
  intro s t u r hram hbrk hsp hmem hmap hrti
  obtain rfl := Host.Outcome.next.inj ((exec_brk s).symm.trans hbrk)
  have hreturn := exec_rti_of_entryFrom hram s.entryFrom_breakSequence hsp hmem hmap
  obtain rfl := Host.Outcome.next.inj (hreturn.symm.trans hrti)
  exact ⟨rfl, rfl, rfl, rfl, rfl, rfl⟩

end Sys2Proof.Machine
end

section
/-! PROOFS. Interrupts at a boundary (R275 to R280, R302): when IRQ is taken, what the RES, NMI and IRQ sequences leave,
and that RTI resumes the interrupted program. -/

namespace Sys2Proof.Machine

open Sys2Proof.Statements

/-! ### The boundary, and the decision about IRQ at it -/

/-- Without an SO edge, a boundary takes in the NMI edge and uses up its inputs. -/
theorem State.atBoundary_of_no_soEdge {s : State} (hso : s.inputs.soEdge = false) :
    s.atBoundary = { s with nmiPending := s.nmiPending || s.inputs.nmiEdge, env := s.env.tail } := by
  rw [State.atBoundary_eq, hso, Bool.or_false]

/-- IRQ must be taken where the line is low and I was 0 both before and after (R275). -/
theorem State.irqMust_eq_true {s : State} {e : Inputs} (hlow : e.irqLow = true) (hbefore : s.iBefore = false)
    (hafter : s.p.i = false) : s.irqMust e = true := by
  simp [State.irqMust, hlow, hbefore, hafter]

theorem State.irqTaken_of_irqMust {s : State} {e : Inputs} (h : s.irqMust e = true) : s.irqTaken e = true := by
  simp [State.irqTaken, h]

theorem State.afterChoice_of_irqMust {s : State} {e : Inputs} (h : s.irqMust e = true) :
    s.afterChoice e = s := by
  simp [State.afterChoice, h]

/-- Where I changed across the last instruction, a low IRQ may be taken but need not (R275): the boundary draws. -/
theorem State.afterChoice_of_iBefore_ne {s : State} {e : Inputs} (hlow : e.irqLow = true)
    (hchange : s.iBefore ≠ s.p.i) : s.afterChoice e = s.drew := by
  have hafter : s.p.i = !s.iBefore := Bool.eq_not.mpr hchange.symm
  simp [State.afterChoice, State.irqMay, State.irqMust, hlow, hafter]

/-! ### The three sequences -/

/-- What an entry is does not depend on the pending NMI, the count of draws and the inputs of the state before it. -/
theorem entryFrom_of_inputs {s t : State} {n : Bool} {k : Nat} {l : List Inputs} {ret vector : Addr} {b : Bool}
    (h : EntryFrom { s with nmiPending := n, draws := k, env := l } t ret b vector) : EntryFrom s t ret b vector :=
  h

theorem State.entryFrom_nmiSequence (s : State) : EntryFrom s s.nmiSequence s.pc false 0xFFFA#16 :=
  State.entryFrom_enter { s with nmiPending := false } false (by decide) (by decide)

theorem State.entryFrom_irqSequence (s : State) : EntryFrom s s.irqSequence s.pc false 0xFFFE#16 :=
  s.entryFrom_enter false (by decide) (by decide)

/-- What the NMI sequence leaves of the inputs and of the model's own fields: the request is used up, and the new I, 1,
is recorded (R275, R277). -/
theorem State.nmiSequence_inputs (s : State) :
    s.nmiSequence.nmiPending = false ∧ s.nmiSequence.iBefore = true ∧ s.nmiSequence.draws = s.draws ∧
      s.nmiSequence.steps = s.steps + 1 ∧ s.nmiSequence.env = s.env := by
  rw [State.nmiSequence, State.enter_eq]
  exact ⟨rfl, rfl, rfl, rfl, rfl⟩

/-- The same of the IRQ sequence, which is taken where no NMI is pending (R275, R276, R280). -/
theorem State.irqSequence_inputs {s : State} (hpending : s.nmiPending = false) :
    s.irqSequence.nmiPending = false ∧ s.irqSequence.iBefore = true ∧ s.irqSequence.draws = s.draws ∧
      s.irqSequence.steps = s.steps + 1 ∧ s.irqSequence.env = s.env := by
  rw [State.irqSequence, State.enter_eq]
  exact ⟨hpending, rfl, rfl, rfl, rfl⟩

/-- Settles O6: RES comes before every other kind of step (R280), and its sequence leaves memory and the map. -/
theorem resEventRunsReset : Obligations.ResEventRunsReset := by
  intro s hres
  exact ⟨_, step_res hres, rfl, rfl, rfl, rfl, rfl, rfl⟩

/-- Settles O7: the decision for an NMI does not depend on I or IRQ. -/
theorem nmiTakenBeforeIrq : Obligations.NmiTakenBeforeIrq := by
  intro s hres hnmi hso hduring
  have hstep := step_nmi hres hnmi
  rw [State.overflowIf_quiet _ _ hduring, State.atBoundary_of_no_soEdge hso] at hstep
  exact ⟨_, hstep, entryFrom_of_inputs (State.entryFrom_nmiSequence _), State.nmiSequence_inputs _⟩

/-- Settles O8: IRQ must be taken, so the boundary draws nothing. -/
theorem unmaskedIrqTaken : Obligations.UnmaskedIrqTaken := by
  intro s hres hnmi hso hduring hlow hbefore hafter
  obtain ⟨hpending, -⟩ := Bool.or_eq_false_iff.mp hnmi
  have hmust : s.atBoundary.irqMust s.inputs = true := State.irqMust_eq_true hlow hbefore hafter
  have hstep := step_irq hres hnmi (State.irqTaken_of_irqMust hmust)
  rw [State.overflowIf_quiet _ _ hduring, State.afterChoice_of_irqMust hmust,
    State.atBoundary_quiet hnmi hso] at hstep
  exact ⟨_, hstep, entryFrom_of_inputs (State.entryFrom_irqSequence _), State.irqSequence_inputs hpending⟩

/-- A step that runs an instruction without an SO edge during it ends where `exec` of it does, with the I flag before it
recorded and the step counted. -/
theorem runInstr_quiet_completes {e : Inputs} (s : State) (h : e.soDuring = false) :
    ∃ t, exec s.fetch { s with pc := s.pc + BitVec.ofNat 16 (encode s.fetch).length } = .next t ∧
      runInstr e s = .next { t with iBefore := s.p.i, steps := t.steps + 1 } := by
  obtain ⟨t, hexec⟩ := everyInstructionCompletes s.fetch s.advance
  refine ⟨t, s.advance_eq ▸ hexec, ?_⟩
  rw [runInstr_quiet s h, hexec]

/-- Settles O9: the boundary draws, and the two cases are those of the drawn value. -/
theorem irqAfterIChangeIsEitherWay : Obligations.IrqAfterIChangeIsEitherWay := by
  intro s i rest hdecode hres hnmi hso hduring hlow hchange
  obtain ⟨hpending, -⟩ := Bool.or_eq_false_iff.mp hnmi
  obtain rfl := State.fetch_eq_of_decode hdecode
  have hchoice : s.atBoundary.afterChoice s.inputs = s.atBoundary.drew :=
    State.afterChoice_of_iBefore_ne hlow hchange
  rw [State.atBoundary_quiet hnmi hso] at hchoice
  cases htaken : s.atBoundary.irqTaken s.inputs with
  | true =>
    left
    have hstep := step_irq hres hnmi htaken
    rw [State.overflowIf_quiet _ _ hduring, State.atBoundary_quiet hnmi hso, hchoice] at hstep
    exact ⟨_, hstep, entryFrom_of_inputs (State.entryFrom_irqSequence _), State.irqSequence_inputs hpending⟩
  | false =>
    right
    rw [step_instr hres hnmi htaken, State.atBoundary_quiet hnmi hso, hchoice]
    exact runInstr_quiet_completes ({ s with env := s.env.tail } : State).drew hduring

/-! ### The return -/

/-- A step that takes an NMI or IRQ has the stack pointer, memory and map of an entry at the boundary: an SO edge during
it comes after the pushes (log 10). -/
theorem step_interrupt_entryFrom {s t : State} (hres : s.inputs.res = false)
    (htaken : (s.nmiPending || s.inputs.nmiEdge) = true ∨ s.irqTaken s.inputs = true) (hstep : step s = .next t) :
    ∃ (entered : State) (vector : Addr), EntryFrom s.atBoundary entered s.pc false vector ∧
      t.sp = entered.sp ∧ t.mem = entered.mem ∧ t.map = entered.map := by
  cases hnmi : s.nmiPending || s.inputs.nmiEdge with
  | true =>
    obtain rfl := Host.Outcome.next.inj ((step_nmi hres hnmi).symm.trans hstep)
    obtain ⟨_, _, hso⟩ := s.atBoundary.nmiSequence.overflowIf_frame s.inputs false
    rw [hso]
    exact ⟨_, _, s.atBoundary.entryFrom_nmiSequence, rfl, rfl, rfl⟩
  | false =>
    have hirq : s.irqTaken s.inputs = true := htaken.resolve_left (by simp [hnmi])
    obtain rfl := Host.Outcome.next.inj ((step_irq hres hnmi hirq).symm.trans hstep)
    obtain ⟨_, _, hso⟩ := (s.atBoundary.afterChoice s.inputs).irqSequence.overflowIf_frame s.inputs false
    rw [hso, State.afterChoice_eq]
    exact ⟨_, _, State.entryFrom_irqSequence _, rfl, rfl, rfl⟩

/-- Settles O24: RTI takes back what the entry pushed, which is the state at the boundary. -/
theorem interruptThenRtiResumes : Obligations.InterruptThenRtiResumes := by
  intro s t u r hram hres htaken hstep hsp hmem hmap hrti
  obtain ⟨entered, vector, hentry, hspt, hmemt, hmapt⟩ := step_interrupt_entryFrom hres htaken hstep
  have hramb : StackIsRam s.atBoundary := hram
  have hreturn := exec_rti_of_entryFrom hramb hentry (hsp.trans hspt) (hmem.trans hmemt) (hmap.trans hmapt)
  obtain rfl := Host.Outcome.next.inj (hreturn.symm.trans hrti)
  exact ⟨rfl, rfl, rfl⟩

end Sys2Proof.Machine
end

section
/-! PROOFS. The SO input (R274): an edge at a boundary counts as V = 1 there, and an edge during a step is the last
thing that the step does. -/

namespace Sys2Proof.Machine

/-- A step sees an SO edge at its boundary only in the state that has taken in the inputs. -/
theorem stepWith_congr_sample {s s' : State} (e : Inputs) {so so' : Bool}
    (h : s.sample { e with soEdge := so } = s'.sample { e with soEdge := so' }) :
    stepWith { e with soEdge := so } s = stepWith { e with soEdge := so' } s' := by
  unfold stepWith
  rw [h]
  rfl

/-- Settles O10: the state with the edge taken in is that with V = 1. -/
theorem soEdgeAtBoundarySetsV : Obligations.SoEdgeAtBoundarySetsV := by
  intro s e later
  refine stepWith_congr_sample (s := { s with env := later })
    (s' := { s with p := { s.p with v := true }, env := later }) e ?_
  simp only [State.sample, Bool.or_true, Bool.or_false]

/-- Recording I and counting the step can come before what an SO edge during the step does. -/
theorem State.completed_overflowIf (s : State) (e : Inputs) (w i : Bool) :
    (s.overflowIf e w).completed i = (s.completed i).overflowIf e w := by
  unfold State.overflowIf
  cases e.soDuring
  · rfl
  · simp only [if_true, State.overflowDuring_eq]
    rfl

/-- Running an instruction leads to one state, the same with an SO edge during it and without, and then to what the edge
does. -/
theorem runInstr_soDuring (s : State) (e : Inputs) :
    ∃ c : State, ∀ so, runInstr { e with soDuring := so } s =
      .next (c.overflowIf { e with soDuring := so } (writesV s.fetch)) := by
  obtain ⟨t, hexec⟩ := everyInstructionCompletes s.fetch s.advance
  refine ⟨t.completed s.p.i, fun so => ?_⟩
  rw [runInstr_next hexec, State.completed_overflowIf]

/-- The same of every step without RES (R274): V is a draw only where no interrupt is taken and the instruction writes
V. -/
theorem step_soDuring (s : State) (e : Inputs) (later : List Inputs) (hres : e.res = false) :
    ∃ (c : State) (w : Bool),
      (∀ so, step { s with env := { e with soDuring := so } :: later } =
        .next (c.overflowIf { e with soDuring := so } w)) ∧
      (w = true → writesV s.fetch = true ∧ (s.nmiPending || e.nmiEdge) = false ∧ s.irqTaken e = false) := by
  let b := ({ s with env := e :: later } : State).atBoundary
  cases hnmi : s.nmiPending || e.nmiEdge with
  | true => exact ⟨b.nmiSequence, false, fun _ => step_nmi hres hnmi, by simp⟩
  | false =>
  cases hirq : s.irqTaken e with
  | true => exact ⟨(b.afterChoice e).irqSequence, false, fun _ => step_irq hres hnmi hirq, by simp⟩
  | false =>
    have hfetch : (b.afterChoice e).fetch = s.fetch := by
      rw [State.afterChoice_eq]
      rfl
    obtain ⟨c, hrun⟩ := runInstr_soDuring (b.afterChoice e) e
    rw [hfetch] at hrun
    refine ⟨c, writesV s.fetch, fun so => ?_, fun hw => ⟨hw, rfl, rfl⟩⟩
    exact (step_instr (s := { s with env := { e with soDuring := so } :: later }) hres hnmi hirq).trans (hrun so)

/-- Settles O11: the edge is the last thing that the step does. -/
theorem soEdgeDuringStepTouchesOnlyV : Obligations.SoEdgeDuringStepTouchesOnlyV := by
  intro s e later hres
  obtain ⟨c, w, hstep, hdraw⟩ := step_soDuring s e later hres
  have hedge : c.overflowIf { e with soDuring := true } w = c.overflowDuring w := rfl
  have hquiet := hstep false
  rw [State.overflowIf_quiet c w rfl] at hquiet
  refine ⟨c, c.overflowDuring w, hquiet, hedge ▸ hstep true, ?_⟩
  rw [State.overflowDuring_eq]
  refine ⟨⟨_, _, rfl⟩, ?_⟩
  cases w with
  | false => simp
  | true =>
    obtain ⟨hwrites, hnmi, hirq⟩ := hdraw rfl
    simp [hwrites, hnmi, hirq]

end Sys2Proof.Machine
end

section
/-! PROOFS. Runs (R270, R284): no step stops, so no run does. -/

namespace Sys2Proof.Machine

/-- Settles O14, by induction on the number of steps. -/
theorem everyRunIsSafe : Obligations.EveryRunIsSafe := by
  intro k
  induction k with
  | zero => exact fun s => ⟨s, core_run_zero s⟩
  | succ k ih =>
    intro s
    obtain ⟨t, hstep⟩ := everyStepCompletes s
    obtain ⟨u, hrun⟩ := ih t
    exact ⟨u, (core_run_succ k hstep).trans hrun⟩

end Sys2Proof.Machine
end
